-- ==== Sys2Proof/Word.lean ====
section
/-! DEFINITION. The two word types of the block (spec/00_scope.md R5, R7): the 8-bit byte and the
16-bit CPU-bus address. Both are bit vectors because the spec adds, shifts and masks them and because
every arithmetic operator on them wraps (R7). -/

namespace Sys2Proof

/-- `u8`: one byte of data. -/
abbrev Byte := BitVec 8

/-- `u16`: an address of the CPU bus. -/
abbrev Addr := BitVec 16

end Sys2Proof
end

