-- ==== Sys2Proof/Config.lean ====
section
/-! DEFINITION. What an implementation fixes (spec/00_scope.md R6). The two policies and the reset
position are plain data that the machine's state carries, so that a statement about every state is a
statement about every setting (log 3). The palette table is open: it has no body here (log 5). -/

namespace Sys2Proof

/-- ILLEGAL_OPCODE_POLICY (R6, D7). -/
inductive IllegalOpcodePolicy where
  | halt
  | nop
deriving DecidableEq, Repr

/-- ROM_WRITE_POLICY (R6, D8). -/
inductive RomWritePolicy where
  | ignore
  | fault
deriving DecidableEq, Repr

/-- The parameters of R6 that are fixed when the machine is constructed. `resetScanline` and `resetDot`
are PPU_RESET_POSITION (D15). -/
structure Params where
  illegalOpcode : IllegalOpcodePolicy
  romWrite : RomWritePolicy
  resetScanline : Int
  resetDot : Nat
deriving DecidableEq, Repr

/-- The defaults of R6. -/
def Params.default : Params :=
  { illegalOpcode := .halt, romWrite := .ignore, resetScanline := 0, resetDot := 0 }

/-- One colour of the framebuffer (60_exceptions.md R297, R299). -/
structure Rgb where
  red : Byte
  green : Byte
  blue : Byte
deriving DecidableEq, Repr, Inhabited

/-- NTSC_PALETTE, "a fixed 64-entry RGB table", whose literal values are not in the source (R299, D26,
C11). A free value: nothing is known of it (log 5). -/
opaque Config.ntscPalette : BitVec 6 → Rgb

end Sys2Proof
end

