-- ==== Sys2Proof/Machine/State.lean ====
section
/-! DEFINITION. The architectural state of the block, spec/10_state.md R20 to R41: CPU, PPU,
controllers, memories, cartridge, system container, and the parameters and the input line of
spec/00_scope.md R6. All of it is plain data. -/

namespace Sys2Proof.Machine

/-- A byte memory as a list of cells in one canonical form: addresses strictly rising, and no cell
equal to 0, which is what an unlisted address reads as (log 1). The form is `Memory.wf`
(Machine/Memory.lean). -/
abbrev Memory := List Host.Cell

/-- The bus a ROM write was made on (R39: `RomWrite(bus, addr, v)`). -/
inductive Bus where
  | cpu
  | ppu
deriving DecidableEq, Repr

/-- The two faults of the block (00_scope.md R10). The spec gives the state each of them leaves
(60_exceptions.md R266, R267), so a fault is recorded in `State.fault` and the machine answers a next
state; no step ends with one of these as its outcome (log 7). -/
inductive Fault where
  /-- Raised by the decode of an illegal byte (44_unofficial.md R252, R253), recorded by
  `raiseIllegalOpcode`. Safe: it is the state the spec gives. -/
  | illegalOpcode (addr : Addr) (op : Byte)
  /-- Raised by a write to PRG or CHR ROM under policy `fault` (60_exceptions.md R267), recorded by
  `raiseRomWrite`. Safe: it is the state the spec gives. -/
  | romWrite (bus : Bus) (addr : Addr) (value : Byte)
deriving DecidableEq, Repr

/-- Why the machine turns a request away. Instructions never are: every arm of `exec` has a meaning.
The other reasons are those of the host operations and of construction. -/
inductive Refusal where
  /-- An instruction without a meaning; no arm raises it. Safe. -/
  | notModelled (mnemonic : String)
  /-- `parseInes`: the file does not begin with `4E 45 53 1A` (20_memory.md R67, R68). Safe. -/
  | badMagic
  /-- `construct`, `parseInes`: the mapper number is not 0 (R68). Safe. -/
  | unsupportedMapper
  /-- `construct`, `parseInes`: four-screen mirroring (R68). Safe. -/
  | fourScreenMirroring
  /-- `construct`, `parseInes`: the 512-byte trainer is present (R68). Safe. -/
  | trainerPresent
  /-- `construct`: `prg_banks` is not 1 or 2, or `chr_banks` is not 1 (R68, D27). Safe. -/
  | unsupportedBankCount
  /-- `construct`, `parseInes`: the PRG or CHR bytes do not have the size the bank counts give (R68). Safe. -/
  | imageSize
  /-- `construct`: PPU_RESET_POSITION is outside scanline -1..260, dot 0..340 (R283, D15). Safe. -/
  | invalidResetPosition
  /-- `setButton`: the port is not 0 or 1 (R305, D42). Safe. -/
  | invalidPort
  /-- `setButton`: the value is not one of the eight masks (R305). Safe. -/
  | invalidButton
  /-- `renderPatternTable`: the table is not 0 or 1, or the palette is not 0..7 (R298). Safe. -/
  | invalidRenderArgument
deriving DecidableEq, Repr

/-- MIRROR, the nametable mirroring mode (R37). -/
inductive Mirroring where
  | horizontal
  | vertical
deriving DecidableEq, Repr

/-- The number of 16 KiB PRG banks NROM accepts (20_memory.md R68). -/
inductive PrgBanks where
  | one
  | two
deriving DecidableEq, Repr

/-- The NROM cartridge (20_memory.md R66): PRG and CHR bytes, bank count, mirroring. -/
structure Cartridge where
  prg : Memory
  chr : Memory
  prgBanks : PrgBanks
  mirror : Mirroring
deriving DecidableEq, Repr

/-- The PPU's state, R28 to R34. `status` holds VBL in bit 7, sprite-0 hit in bit 6, sprite overflow in
bit 5; bits 4:0 are not stored and stay 0 (R32). -/
structure Ppu where
  scanline : Int
  dot : Nat
  frameComplete : Bool
  frameCount : BitVec 64
  ctrl : Byte
  mask : Byte
  status : Byte
  v : BitVec 15
  t : BitVec 15
  x : BitVec 3
  w : Bool
  buffer : Byte
deriving DecidableEq, Repr

/-- One controller, R36. -/
structure Controller where
  buttons : Byte
  shift : Byte
deriving DecidableEq, Repr

/-- The whole machine. -/
structure State where
  /-- A, X, Y (R20). -/
  a : Byte
  x : Byte
  y : Byte
  /-- SP (R22). -/
  sp : Byte
  /-- P, flags C Z I D B U V N in bits 0 to 7 (R23). -/
  p : Byte
  /-- PC (R21). -/
  pc : Addr
  /-- Cycles still owed (R25). -/
  remaining : Nat
  /-- Working fields (R26). -/
  opcode : Byte
  fetched : Byte
  ea : Addr
  /-- Counters (R27). -/
  cycles : BitVec 64
  instructions : BitVec 64
  /-- The PPU (R28 to R34). -/
  ppu : Ppu
  /-- Controllers of ports 1 and 2 (R36). -/
  ctl0 : Controller
  ctl1 : Controller
  /-- CPU RAM, nametable VRAM, palette RAM (R37). -/
  ram : Memory
  vram : Memory
  pal : Memory
  /-- The cartridge (R37, 20_memory.md R66). -/
  cart : Cartridge
  /-- System container (R38, R39). -/
  nmiPending : Bool
  master : BitVec 64
  halted : Bool
  fault : Option Fault
  romWriteSeen : Bool
  /-- The input IRQ_LINE (00_scope.md R6, log 4). -/
  irqLine : Bool
  /-- The parameters of 00_scope.md R6 (log 3). -/
  params : Params
deriving DecidableEq, Repr

/-- A blank NROM image: two PRG banks, horizontal mirroring, every byte 0 (log 2). -/
def Cartridge.blank : Cartridge :=
  { prg := [], chr := [], prgBanks := .two, mirror := .horizontal }

/-- The PPU's registers at a position, everything else 0 (R40). -/
def Ppu.atPosition (scanline : Int) (dot : Nat) : Ppu :=
  { scanline := scanline, dot := dot, frameComplete := false, frameCount := 0, ctrl := 0, mask := 0,
    status := 0, v := 0, t := 0, x := 0, w := false, buffer := 0 }

/-- The state after construction, the construction column of R40. -/
def State.constructed (cart : Cartridge) (params : Params) : State :=
  { a := 0, x := 0, y := 0, sp := 0, p := 0, pc := 0, remaining := 0, opcode := 0, fetched := 0, ea := 0,
    cycles := 0, instructions := 0,
    ppu := Ppu.atPosition params.resetScanline params.resetDot,
    ctl0 := { buttons := 0, shift := 0 }, ctl1 := { buttons := 0, shift := 0 },
    ram := [], vram := [], pal := [], cart := cart,
    nmiPending := false, master := 0, halted := false, fault := none, romWriteSeen := false,
    irqLine := false, params := params }

/-- The machine right after power-on (construction then `reset`, D29) with the blank cartridge and the
default parameters: R40's column "after reset". The vector at $FFFC of the blank cartridge is $0000
(log 2). -/
def State.reset : State :=
  { State.constructed Cartridge.blank Params.default with sp := 0xFD, pc := 0x0000, remaining := 7 }

end Sys2Proof.Machine
end

