-- ==== Sys2Proof/Syntax.lean ====
section
/-! DEFINITION. The instruction set as syntax: one constructor for each of the 256 rows of
spec/opcode_table.json (spec/30_encoding.md R113, R114), the 25 illegal rows among them. Operands: `n` an
immediate byte, `z` a zero-page byte, `w` a 16-bit address, `d` a branch displacement as the signed number it
stands for (R112, log 12). A constructor is named by mnemonic and mode; the byte is added where the two do
not tell two rows apart. The rows with operands come first, in opcode order, then those without. -/

namespace Sys2Proof

/-- An instruction of the opcode map. -/
inductive Instr where
  /-- $01 ORA (z,X) (R186). -/
  | oraIzx (z : Byte)
  /-- $03 SLO (z,X) (R245). -/
  | sloIzx (z : Byte)
  /-- $04 NOP z (R251). -/
  | nopZp004 (z : Byte)
  /-- $05 ORA z (R186). -/
  | oraZp0 (z : Byte)
  /-- $06 ASL z (R198). -/
  | aslZp0 (z : Byte)
  /-- $07 SLO z (R245). -/
  | sloZp0 (z : Byte)
  /-- $09 ORA #n (R186). -/
  | oraImm (n : Byte)
  /-- $0C NOP w (R251). -/
  | nopAbs0c (w : Addr)
  /-- $0D ORA w (R186). -/
  | oraAbs (w : Addr)
  /-- $0E ASL w (R198). -/
  | aslAbs (w : Addr)
  /-- $0F SLO w (R245). -/
  | sloAbs (w : Addr)
  /-- $10 BPL d (R216). -/
  | bpl (d : Int)
  /-- $11 ORA (z),Y (R186). -/
  | oraIzy (z : Byte)
  /-- $13 SLO (z),Y (R245). -/
  | sloIzy (z : Byte)
  /-- $14 NOP z,X (R251). -/
  | nopZpx14 (z : Byte)
  /-- $15 ORA z,X (R186). -/
  | oraZpx (z : Byte)
  /-- $16 ASL z,X (R198). -/
  | aslZpx (z : Byte)
  /-- $17 SLO z,X (R245). -/
  | sloZpx (z : Byte)
  /-- $19 ORA w,Y (R186). -/
  | oraAby (w : Addr)
  /-- $1B SLO w,Y (R245). -/
  | sloAby (w : Addr)
  /-- $1C NOP w,X (R251). -/
  | nopAbx1c (w : Addr)
  /-- $1D ORA w,X (R186). -/
  | oraAbx (w : Addr)
  /-- $1E ASL w,X (R198). -/
  | aslAbx (w : Addr)
  /-- $1F SLO w,X (R245). -/
  | sloAbx (w : Addr)
  /-- $20 JSR w (R221). -/
  | jsr (w : Addr)
  /-- $21 AND (z,X) (R185). -/
  | andIzx (z : Byte)
  /-- $23 RLA (z,X) (R246). -/
  | rlaIzx (z : Byte)
  /-- $24 BIT z (R188). -/
  | bitZp0 (z : Byte)
  /-- $25 AND z (R185). -/
  | andZp0 (z : Byte)
  /-- $26 ROL z (R202). -/
  | rolZp0 (z : Byte)
  /-- $27 RLA z (R246). -/
  | rlaZp0 (z : Byte)
  /-- $29 AND #n (R185). -/
  | andImm (n : Byte)
  /-- $2C BIT w (R188). -/
  | bitAbs (w : Addr)
  /-- $2D AND w (R185). -/
  | andAbs (w : Addr)
  /-- $2E ROL w (R202). -/
  | rolAbs (w : Addr)
  /-- $2F RLA w (R246). -/
  | rlaAbs (w : Addr)
  /-- $30 BMI d (R214). -/
  | bmi (d : Int)
  /-- $31 AND (z),Y (R185). -/
  | andIzy (z : Byte)
  /-- $33 RLA (z),Y (R246). -/
  | rlaIzy (z : Byte)
  /-- $34 NOP z,X (R251). -/
  | nopZpx34 (z : Byte)
  /-- $35 AND z,X (R185). -/
  | andZpx (z : Byte)
  /-- $36 ROL z,X (R202). -/
  | rolZpx (z : Byte)
  /-- $37 RLA z,X (R246). -/
  | rlaZpx (z : Byte)
  /-- $39 AND w,Y (R185). -/
  | andAby (w : Addr)
  /-- $3B RLA w,Y (R246). -/
  | rlaAby (w : Addr)
  /-- $3C NOP w,X (R251). -/
  | nopAbx3c (w : Addr)
  /-- $3D AND w,X (R185). -/
  | andAbx (w : Addr)
  /-- $3E ROL w,X (R202). -/
  | rolAbx (w : Addr)
  /-- $3F RLA w,X (R246). -/
  | rlaAbx (w : Addr)
  /-- $41 EOR (z,X) (R187). -/
  | eorIzx (z : Byte)
  /-- $43 SRE (z,X) (R247). -/
  | sreIzx (z : Byte)
  /-- $44 NOP z (R251). -/
  | nopZp044 (z : Byte)
  /-- $45 EOR z (R187). -/
  | eorZp0 (z : Byte)
  /-- $46 LSR z (R200). -/
  | lsrZp0 (z : Byte)
  /-- $47 SRE z (R247). -/
  | sreZp0 (z : Byte)
  /-- $49 EOR #n (R187). -/
  | eorImm (n : Byte)
  /-- $4C JMP w (R219). -/
  | jmpAbs (w : Addr)
  /-- $4D EOR w (R187). -/
  | eorAbs (w : Addr)
  /-- $4E LSR w (R200). -/
  | lsrAbs (w : Addr)
  /-- $4F SRE w (R247). -/
  | sreAbs (w : Addr)
  /-- $50 BVC d (R217). -/
  | bvc (d : Int)
  /-- $51 EOR (z),Y (R187). -/
  | eorIzy (z : Byte)
  /-- $53 SRE (z),Y (R247). -/
  | sreIzy (z : Byte)
  /-- $54 NOP z,X (R251). -/
  | nopZpx54 (z : Byte)
  /-- $55 EOR z,X (R187). -/
  | eorZpx (z : Byte)
  /-- $56 LSR z,X (R200). -/
  | lsrZpx (z : Byte)
  /-- $57 SRE z,X (R247). -/
  | sreZpx (z : Byte)
  /-- $59 EOR w,Y (R187). -/
  | eorAby (w : Addr)
  /-- $5B SRE w,Y (R247). -/
  | sreAby (w : Addr)
  /-- $5C NOP w,X (R251). -/
  | nopAbx5c (w : Addr)
  /-- $5D EOR w,X (R187). -/
  | eorAbx (w : Addr)
  /-- $5E LSR w,X (R200). -/
  | lsrAbx (w : Addr)
  /-- $5F SRE w,X (R247). -/
  | sreAbx (w : Addr)
  /-- $61 ADC (z,X) (R183). -/
  | adcIzx (z : Byte)
  /-- $63 RRA (z,X) (R248). -/
  | rraIzx (z : Byte)
  /-- $64 NOP z (R251). -/
  | nopZp064 (z : Byte)
  /-- $65 ADC z (R183). -/
  | adcZp0 (z : Byte)
  /-- $66 ROR z (R204). -/
  | rorZp0 (z : Byte)
  /-- $67 RRA z (R248). -/
  | rraZp0 (z : Byte)
  /-- $69 ADC #n (R183). -/
  | adcImm (n : Byte)
  /-- $6C JMP (w) (R220). -/
  | jmpInd (w : Addr)
  /-- $6D ADC w (R183). -/
  | adcAbs (w : Addr)
  /-- $6E ROR w (R204). -/
  | rorAbs (w : Addr)
  /-- $6F RRA w (R248). -/
  | rraAbs (w : Addr)
  /-- $70 BVS d (R218). -/
  | bvs (d : Int)
  /-- $71 ADC (z),Y (R183). -/
  | adcIzy (z : Byte)
  /-- $73 RRA (z),Y (R248). -/
  | rraIzy (z : Byte)
  /-- $74 NOP z,X (R251). -/
  | nopZpx74 (z : Byte)
  /-- $75 ADC z,X (R183). -/
  | adcZpx (z : Byte)
  /-- $76 ROR z,X (R204). -/
  | rorZpx (z : Byte)
  /-- $77 RRA z,X (R248). -/
  | rraZpx (z : Byte)
  /-- $79 ADC w,Y (R183). -/
  | adcAby (w : Addr)
  /-- $7B RRA w,Y (R248). -/
  | rraAby (w : Addr)
  /-- $7C NOP w,X (R251). -/
  | nopAbx7c (w : Addr)
  /-- $7D ADC w,X (R183). -/
  | adcAbx (w : Addr)
  /-- $7E ROR w,X (R204). -/
  | rorAbx (w : Addr)
  /-- $7F RRA w,X (R248). -/
  | rraAbx (w : Addr)
  /-- $80 NOP #n (R251). -/
  | nopImm80 (n : Byte)
  /-- $81 STA (z,X) (R163). -/
  | staIzx (z : Byte)
  /-- $82 NOP #n (R251). -/
  | nopImm82 (n : Byte)
  /-- $83 SAX (z,X) (R242). -/
  | saxIzx (z : Byte)
  /-- $84 STY z (R165). -/
  | styZp0 (z : Byte)
  /-- $85 STA z (R163). -/
  | staZp0 (z : Byte)
  /-- $86 STX z (R164). -/
  | stxZp0 (z : Byte)
  /-- $87 SAX z (R242). -/
  | saxZp0 (z : Byte)
  /-- $89 NOP #n (R251). -/
  | nopImm89 (n : Byte)
  /-- $8C STY w (R165). -/
  | styAbs (w : Addr)
  /-- $8D STA w (R163). -/
  | staAbs (w : Addr)
  /-- $8E STX w (R164). -/
  | stxAbs (w : Addr)
  /-- $8F SAX w (R242). -/
  | saxAbs (w : Addr)
  /-- $90 BCC d (R211). -/
  | bcc (d : Int)
  /-- $91 STA (z),Y (R163). -/
  | staIzy (z : Byte)
  /-- $94 STY z,X (R165). -/
  | styZpx (z : Byte)
  /-- $95 STA z,X (R163). -/
  | staZpx (z : Byte)
  /-- $96 STX z,Y (R164). -/
  | stxZpy (z : Byte)
  /-- $97 SAX z,Y (R242). -/
  | saxZpy (z : Byte)
  /-- $99 STA w,Y (R163). -/
  | staAby (w : Addr)
  /-- $9D STA w,X (R163). -/
  | staAbx (w : Addr)
  /-- $A0 LDY #n (R162). -/
  | ldyImm (n : Byte)
  /-- $A1 LDA (z,X) (R160). -/
  | ldaIzx (z : Byte)
  /-- $A2 LDX #n (R161). -/
  | ldxImm (n : Byte)
  /-- $A3 LAX (z,X) (R241). -/
  | laxIzx (z : Byte)
  /-- $A4 LDY z (R162). -/
  | ldyZp0 (z : Byte)
  /-- $A5 LDA z (R160). -/
  | ldaZp0 (z : Byte)
  /-- $A6 LDX z (R161). -/
  | ldxZp0 (z : Byte)
  /-- $A7 LAX z (R241). -/
  | laxZp0 (z : Byte)
  /-- $A9 LDA #n (R160). -/
  | ldaImm (n : Byte)
  /-- $AC LDY w (R162). -/
  | ldyAbs (w : Addr)
  /-- $AD LDA w (R160). -/
  | ldaAbs (w : Addr)
  /-- $AE LDX w (R161). -/
  | ldxAbs (w : Addr)
  /-- $AF LAX w (R241). -/
  | laxAbs (w : Addr)
  /-- $B0 BCS d (R212). -/
  | bcs (d : Int)
  /-- $B1 LDA (z),Y (R160). -/
  | ldaIzy (z : Byte)
  /-- $B3 LAX (z),Y (R241). -/
  | laxIzy (z : Byte)
  /-- $B4 LDY z,X (R162). -/
  | ldyZpx (z : Byte)
  /-- $B5 LDA z,X (R160). -/
  | ldaZpx (z : Byte)
  /-- $B6 LDX z,Y (R161). -/
  | ldxZpy (z : Byte)
  /-- $B7 LAX z,Y (R241). -/
  | laxZpy (z : Byte)
  /-- $B9 LDA w,Y (R160). -/
  | ldaAby (w : Addr)
  /-- $BC LDY w,X (R162). -/
  | ldyAbx (w : Addr)
  /-- $BD LDA w,X (R160). -/
  | ldaAbx (w : Addr)
  /-- $BE LDX w,Y (R161). -/
  | ldxAby (w : Addr)
  /-- $BF LAX w,Y (R241). -/
  | laxAby (w : Addr)
  /-- $C0 CPY #n (R191). -/
  | cpyImm (n : Byte)
  /-- $C1 CMP (z,X) (R189). -/
  | cmpIzx (z : Byte)
  /-- $C2 NOP #n (R251). -/
  | nopImmc2 (n : Byte)
  /-- $C3 DCP (z,X) (R243). -/
  | dcpIzx (z : Byte)
  /-- $C4 CPY z (R191). -/
  | cpyZp0 (z : Byte)
  /-- $C5 CMP z (R189). -/
  | cmpZp0 (z : Byte)
  /-- $C6 DEC z (R193). -/
  | decZp0 (z : Byte)
  /-- $C7 DCP z (R243). -/
  | dcpZp0 (z : Byte)
  /-- $C9 CMP #n (R189). -/
  | cmpImm (n : Byte)
  /-- $CC CPY w (R191). -/
  | cpyAbs (w : Addr)
  /-- $CD CMP w (R189). -/
  | cmpAbs (w : Addr)
  /-- $CE DEC w (R193). -/
  | decAbs (w : Addr)
  /-- $CF DCP w (R243). -/
  | dcpAbs (w : Addr)
  /-- $D0 BNE d (R215). -/
  | bne (d : Int)
  /-- $D1 CMP (z),Y (R189). -/
  | cmpIzy (z : Byte)
  /-- $D3 DCP (z),Y (R243). -/
  | dcpIzy (z : Byte)
  /-- $D4 NOP z,X (R251). -/
  | nopZpxd4 (z : Byte)
  /-- $D5 CMP z,X (R189). -/
  | cmpZpx (z : Byte)
  /-- $D6 DEC z,X (R193). -/
  | decZpx (z : Byte)
  /-- $D7 DCP z,X (R243). -/
  | dcpZpx (z : Byte)
  /-- $D9 CMP w,Y (R189). -/
  | cmpAby (w : Addr)
  /-- $DB DCP w,Y (R243). -/
  | dcpAby (w : Addr)
  /-- $DC NOP w,X (R251). -/
  | nopAbxdc (w : Addr)
  /-- $DD CMP w,X (R189). -/
  | cmpAbx (w : Addr)
  /-- $DE DEC w,X (R193). -/
  | decAbx (w : Addr)
  /-- $DF DCP w,X (R243). -/
  | dcpAbx (w : Addr)
  /-- $E0 CPX #n (R190). -/
  | cpxImm (n : Byte)
  /-- $E1 SBC (z,X) (R184). -/
  | sbcIzx (z : Byte)
  /-- $E2 NOP #n (R251). -/
  | nopImme2 (n : Byte)
  /-- $E3 ISC (z,X) (R244). -/
  | iscIzx (z : Byte)
  /-- $E4 CPX z (R190). -/
  | cpxZp0 (z : Byte)
  /-- $E5 SBC z (R184). -/
  | sbcZp0 (z : Byte)
  /-- $E6 INC z (R192). -/
  | incZp0 (z : Byte)
  /-- $E7 ISC z (R244). -/
  | iscZp0 (z : Byte)
  /-- $E9 SBC #n (R184). -/
  | sbcImm (n : Byte)
  /-- $EB SBC #n (R249). -/
  | sbcImmEb (n : Byte)
  /-- $EC CPX w (R190). -/
  | cpxAbs (w : Addr)
  /-- $ED SBC w (R184). -/
  | sbcAbs (w : Addr)
  /-- $EE INC w (R192). -/
  | incAbs (w : Addr)
  /-- $EF ISC w (R244). -/
  | iscAbs (w : Addr)
  /-- $F0 BEQ d (R213). -/
  | beq (d : Int)
  /-- $F1 SBC (z),Y (R184). -/
  | sbcIzy (z : Byte)
  /-- $F3 ISC (z),Y (R244). -/
  | iscIzy (z : Byte)
  /-- $F4 NOP z,X (R251). -/
  | nopZpxf4 (z : Byte)
  /-- $F5 SBC z,X (R184). -/
  | sbcZpx (z : Byte)
  /-- $F6 INC z,X (R192). -/
  | incZpx (z : Byte)
  /-- $F7 ISC z,X (R244). -/
  | iscZpx (z : Byte)
  /-- $F9 SBC w,Y (R184). -/
  | sbcAby (w : Addr)
  /-- $FB ISC w,Y (R244). -/
  | iscAby (w : Addr)
  /-- $FC NOP w,X (R251). -/
  | nopAbxfc (w : Addr)
  /-- $FD SBC w,X (R184). -/
  | sbcAbx (w : Addr)
  /-- $FE INC w,X (R192). -/
  | incAbx (w : Addr)
  /-- $FF ISC w,X (R244). -/
  | iscAbx (w : Addr)
  /-- $00 BRK (R224). -/
  | brk
  /-- $02 XXX (R252). -/
  | xxx02
  /-- $08 PHP (R173). -/
  | php
  /-- $0A ASL A (R199). -/
  | aslAcc
  /-- $0B XXX (R252). -/
  | xxx0b
  /-- $12 XXX (R252). -/
  | xxx12
  /-- $18 CLC (R225). -/
  | clc
  /-- $1A NOP (R250). -/
  | nopImp1a
  /-- $22 XXX (R252). -/
  | xxx22
  /-- $28 PLP (R175). -/
  | plp
  /-- $2A ROL A (R203). -/
  | rolAcc
  /-- $2B XXX (R252). -/
  | xxx2b
  /-- $32 XXX (R252). -/
  | xxx32
  /-- $38 SEC (R229). -/
  | sec
  /-- $3A NOP (R250). -/
  | nopImp3a
  /-- $40 RTI (R223). -/
  | rti
  /-- $42 XXX (R252). -/
  | xxx42
  /-- $48 PHA (R172). -/
  | pha
  /-- $4A LSR A (R201). -/
  | lsrAcc
  /-- $4B XXX (R252). -/
  | xxx4b
  /-- $52 XXX (R252). -/
  | xxx52
  /-- $58 CLI (R227). -/
  | cli
  /-- $5A NOP (R250). -/
  | nopImp5a
  /-- $60 RTS (R222). -/
  | rts
  /-- $62 XXX (R252). -/
  | xxx62
  /-- $68 PLA (R174). -/
  | pla
  /-- $6A ROR A (R205). -/
  | rorAcc
  /-- $6B XXX (R252). -/
  | xxx6b
  /-- $72 XXX (R252). -/
  | xxx72
  /-- $78 SEI (R231). -/
  | sei
  /-- $7A NOP (R250). -/
  | nopImp7a
  /-- $88 DEY (R197). -/
  | dey
  /-- $8A TXA (R169). -/
  | txa
  /-- $8B XXX (R252). -/
  | xxx8b
  /-- $92 XXX (R252). -/
  | xxx92
  /-- $93 XXX (R252). -/
  | xxx93
  /-- $98 TYA (R171). -/
  | tya
  /-- $9A TXS (R170). -/
  | txs
  /-- $9B XXX (R252). -/
  | xxx9b
  /-- $9C XXX (R252). -/
  | xxx9c
  /-- $9E XXX (R252). -/
  | xxx9e
  /-- $9F XXX (R252). -/
  | xxx9f
  /-- $A8 TAY (R167). -/
  | tay
  /-- $AA TAX (R166). -/
  | tax
  /-- $AB XXX (R252). -/
  | xxxab
  /-- $B2 XXX (R252). -/
  | xxxb2
  /-- $B8 CLV (R228). -/
  | clv
  /-- $BA TSX (R168). -/
  | tsx
  /-- $BB XXX (R252). -/
  | xxxbb
  /-- $C8 INY (R195). -/
  | iny
  /-- $CA DEX (R196). -/
  | dex
  /-- $CB XXX (R252). -/
  | xxxcb
  /-- $D2 XXX (R252). -/
  | xxxd2
  /-- $D8 CLD (R226). -/
  | cld
  /-- $DA NOP (R250). -/
  | nopImpda
  /-- $E8 INX (R194). -/
  | inx
  /-- $EA NOP (R232). -/
  | nop
  /-- $F2 XXX (R252). -/
  | xxxf2
  /-- $F8 SED (R230). -/
  | sed
  /-- $FA NOP (R250). -/
  | nopImpfa
deriving DecidableEq, Repr

end Sys2Proof
end

