-- ==== Sys2Proof/WellFormed.lean ====
section
/-! DEFINITION. Which instruction terms stand for machine code. Every operand but one kind has exactly its
encoding field as its type; a branch displacement is a signed number and must fit its byte:
"which must lie in -128..127" (spec/30_encoding.md R120, R111). -/

namespace Sys2Proof

/-- The displacement fits the signed 8-bit field of a REL instruction. -/
def displacementFits (d : Int) : Bool := decide (-128 ≤ d) && decide (d ≤ 127)

/-- The check of a term. -/
def Instr.wellFormed : Instr → Bool
  | .bpl d | .bmi d | .bvc d | .bvs d | .bcc d | .bcs d | .bne d | .beq d => displacementFits d
  | .oraIzx _ | .sloIzx _ | .nopZp004 _ | .oraZp0 _ | .aslZp0 _ | .sloZp0 _ | .oraImm _ | .nopAbs0c _ | .oraAbs _
  | .aslAbs _ | .sloAbs _ | .oraIzy _ | .sloIzy _ | .nopZpx14 _ | .oraZpx _ | .aslZpx _ | .sloZpx _ | .oraAby _
  | .sloAby _ | .nopAbx1c _ | .oraAbx _ | .aslAbx _ | .sloAbx _ | .jsr _ | .andIzx _ | .rlaIzx _ | .bitZp0 _
  | .andZp0 _ | .rolZp0 _ | .rlaZp0 _ | .andImm _ | .bitAbs _ | .andAbs _ | .rolAbs _ | .rlaAbs _ | .andIzy _
  | .rlaIzy _ | .nopZpx34 _ | .andZpx _ | .rolZpx _ | .rlaZpx _ | .andAby _ | .rlaAby _ | .nopAbx3c _ | .andAbx _
  | .rolAbx _ | .rlaAbx _ | .eorIzx _ | .sreIzx _ | .nopZp044 _ | .eorZp0 _ | .lsrZp0 _ | .sreZp0 _ | .eorImm _
  | .jmpAbs _ | .eorAbs _ | .lsrAbs _ | .sreAbs _ | .eorIzy _ | .sreIzy _ | .nopZpx54 _ | .eorZpx _ | .lsrZpx _
  | .sreZpx _ | .eorAby _ | .sreAby _ | .nopAbx5c _ | .eorAbx _ | .lsrAbx _ | .sreAbx _ | .adcIzx _ | .rraIzx _
  | .nopZp064 _ | .adcZp0 _ | .rorZp0 _ | .rraZp0 _ | .adcImm _ | .jmpInd _ | .adcAbs _ | .rorAbs _ | .rraAbs _
  | .adcIzy _ | .rraIzy _ | .nopZpx74 _ | .adcZpx _ | .rorZpx _ | .rraZpx _ | .adcAby _ | .rraAby _ | .nopAbx7c _
  | .adcAbx _ | .rorAbx _ | .rraAbx _ | .nopImm80 _ | .staIzx _ | .nopImm82 _ | .saxIzx _ | .styZp0 _ | .staZp0 _
  | .stxZp0 _ | .saxZp0 _ | .nopImm89 _ | .styAbs _ | .staAbs _ | .stxAbs _ | .saxAbs _ | .staIzy _ | .styZpx _
  | .staZpx _ | .stxZpy _ | .saxZpy _ | .staAby _ | .staAbx _ | .ldyImm _ | .ldaIzx _ | .ldxImm _ | .laxIzx _
  | .ldyZp0 _ | .ldaZp0 _ | .ldxZp0 _ | .laxZp0 _ | .ldaImm _ | .ldyAbs _ | .ldaAbs _ | .ldxAbs _ | .laxAbs _
  | .ldaIzy _ | .laxIzy _ | .ldyZpx _ | .ldaZpx _ | .ldxZpy _ | .laxZpy _ | .ldaAby _ | .ldyAbx _ | .ldaAbx _
  | .ldxAby _ | .laxAby _ | .cpyImm _ | .cmpIzx _ | .nopImmc2 _ | .dcpIzx _ | .cpyZp0 _ | .cmpZp0 _ | .decZp0 _
  | .dcpZp0 _ | .cmpImm _ | .cpyAbs _ | .cmpAbs _ | .decAbs _ | .dcpAbs _ | .cmpIzy _ | .dcpIzy _ | .nopZpxd4 _
  | .cmpZpx _ | .decZpx _ | .dcpZpx _ | .cmpAby _ | .dcpAby _ | .nopAbxdc _ | .cmpAbx _ | .decAbx _ | .dcpAbx _
  | .cpxImm _ | .sbcIzx _ | .nopImme2 _ | .iscIzx _ | .cpxZp0 _ | .sbcZp0 _ | .incZp0 _ | .iscZp0 _ | .sbcImm _
  | .sbcImmEb _ | .cpxAbs _ | .sbcAbs _ | .incAbs _ | .iscAbs _ | .sbcIzy _ | .iscIzy _ | .nopZpxf4 _ | .sbcZpx _
  | .incZpx _ | .iscZpx _ | .sbcAby _ | .iscAby _ | .nopAbxfc _ | .sbcAbx _ | .incAbx _ | .iscAbx _ | .brk | .xxx02
  | .php | .aslAcc | .xxx0b | .xxx12 | .clc | .nopImp1a | .xxx22 | .plp | .rolAcc | .xxx2b | .xxx32 | .sec
  | .nopImp3a | .rti | .xxx42 | .pha | .lsrAcc | .xxx4b | .xxx52 | .cli | .nopImp5a | .rts | .xxx62 | .pla
  | .rorAcc | .xxx6b | .xxx72 | .sei | .nopImp7a | .dey | .txa | .xxx8b | .xxx92 | .xxx93 | .tya | .txs | .xxx9b
  | .xxx9c | .xxx9e | .xxx9f | .tay | .tax | .xxxab | .xxxb2 | .clv | .tsx | .xxxbb | .iny | .dex | .xxxcb | .xxxd2
  | .cld | .nopImpda | .inx | .nop | .xxxf2 | .sed | .nopImpfa => true

/-- `i` stands for a machine instruction. -/
abbrev Instr.WellFormed (i : Instr) : Prop := i.wellFormed = true

end Sys2Proof
end

