-- ==== Sys2Proof/Decode.lean ====
section
/-! DEFINITION. The opcode table as data (spec/30_encoding.md R113, R114), the decoder over bytes, and the
encoder. The table is the map of R114 row by row: row the high nibble, column the low nibble of the opcode
byte. The decoder reads the length from the first byte (R110, R119) and is total: it rejects only a list
that ends before the instruction does. -/

namespace Sys2Proof

/-! ### Byte order and sign extension (R60, R112) -/

/-- `(hi << 8) | lo`. -/
def addrOf (hi lo : Byte) : Addr := hi ++ lo

/-- Bits 15:8. -/
def hiByte (a : Addr) : Byte := a.extractLsb' 8 8

/-- Bits 7:0. -/
def loByte (a : Addr) : Byte := a.extractLsb' 0 8

/-- The displacement byte of a branch read as a signed number (R112). -/
def dispOfByte (rr : Byte) : Int := rr.toInt

/-- The byte of a displacement. -/
def byteOfDisp (d : Int) : Byte := BitVec.ofInt 8 d

/-! ### The table -/

/-- The thirteen addressing modes (R111). -/
inductive Mode where
  | imp
  | acc
  | imm
  | zp0
  | zpx
  | zpy
  | rel
  | abs
  | abx
  | aby
  | ind
  | izx
  | izy
deriving DecidableEq, Repr

/-- Bytes of an instruction of each mode, the opcode byte included (R111). -/
def Mode.length : Mode → Nat
  | .imp | .acc => 1
  | .imm | .zp0 | .zpx | .zpy | .rel | .izx | .izy => 2
  | .abs | .abx | .aby | .ind => 3

/-- The mnemonics of the table; `xxx` is the illegal entry. -/
inductive Mnemonic where
  | adc
  | and
  | asl
  | bcc
  | bcs
  | beq
  | bit
  | bmi
  | bne
  | bpl
  | brk
  | bvc
  | bvs
  | clc
  | cld
  | cli
  | clv
  | cmp
  | cpx
  | cpy
  | dcp
  | dec
  | dex
  | dey
  | eor
  | inc
  | inx
  | iny
  | isc
  | jmp
  | jsr
  | lax
  | lda
  | ldx
  | ldy
  | lsr
  | nop
  | ora
  | pha
  | php
  | pla
  | plp
  | rla
  | rol
  | ror
  | rra
  | rti
  | rts
  | sax
  | sbc
  | sec
  | sed
  | sei
  | slo
  | sre
  | sta
  | stx
  | sty
  | tax
  | tay
  | tsx
  | txa
  | txs
  | tya
  | xxx
deriving DecidableEq, Repr

/-- "every byte is exactly one of official, unofficial or illegal" (R118). -/
inductive OpKind where
  | official
  | unofficial
  | illegal
deriving DecidableEq, Repr

/-- One entry of the opcode table (R113): mnemonic, mode, base cycle count (0 for the illegal entry, which has
none), class, and the instruction it makes of the two bytes after the opcode. -/
structure OpEntry where
  mnemonic : Mnemonic
  mode : Mode
  base : Nat
  kind : OpKind
  build : Byte → Byte → Instr

/-- An official entry without operand bytes. -/
def entry0 (m : Mnemonic) (mode : Mode) (base : Nat) (i : Instr) : OpEntry := ⟨m, mode, base, .official, fun _ _ => i⟩

/-- An official entry with one operand byte. -/
def entry1 (m : Mnemonic) (mode : Mode) (base : Nat) (mk : Byte → Instr) : OpEntry := ⟨m, mode, base, .official, fun b _ => mk b⟩

/-- An official entry with a 16-bit operand, low byte first (R60). -/
def entry2 (m : Mnemonic) (mode : Mode) (base : Nat) (mk : Addr → Instr) : OpEntry :=
  ⟨m, mode, base, .official, fun lo hi => mk (addrOf hi lo)⟩

/-- A branch entry (R135). -/
def entryB (m : Mnemonic) (mk : Int → Instr) : OpEntry := ⟨m, .rel, 2, .official, fun rr _ => mk (dispOfByte rr)⟩

/-- The same entry marked unofficial, `*` in R114. -/
def unofficial (e : OpEntry) : OpEntry := { e with kind := .unofficial }

/-- The illegal entry "XXX" (R117). -/
def illegalEntry (i : Instr) : OpEntry := ⟨.xxx, .imp, 0, .illegal, fun _ _ => i⟩

/-- Row $0x of R114. -/
def opRow0 : List OpEntry := [
  entry0 .brk .imp 7 .brk,
  entry1 .ora .izx 6 .oraIzx,
  illegalEntry .xxx02,
  unofficial (entry1 .slo .izx 8 .sloIzx),
  unofficial (entry1 .nop .zp0 3 .nopZp004),
  entry1 .ora .zp0 3 .oraZp0,
  entry1 .asl .zp0 5 .aslZp0,
  unofficial (entry1 .slo .zp0 5 .sloZp0),
  entry0 .php .imp 3 .php,
  entry1 .ora .imm 2 .oraImm,
  entry0 .asl .acc 2 .aslAcc,
  illegalEntry .xxx0b,
  unofficial (entry2 .nop .abs 4 .nopAbs0c),
  entry2 .ora .abs 4 .oraAbs,
  entry2 .asl .abs 6 .aslAbs,
  unofficial (entry2 .slo .abs 6 .sloAbs)]

/-- Row $1x of R114. -/
def opRow1 : List OpEntry := [
  entryB .bpl .bpl,
  entry1 .ora .izy 5 .oraIzy,
  illegalEntry .xxx12,
  unofficial (entry1 .slo .izy 8 .sloIzy),
  unofficial (entry1 .nop .zpx 4 .nopZpx14),
  entry1 .ora .zpx 4 .oraZpx,
  entry1 .asl .zpx 6 .aslZpx,
  unofficial (entry1 .slo .zpx 6 .sloZpx),
  entry0 .clc .imp 2 .clc,
  entry2 .ora .aby 4 .oraAby,
  unofficial (entry0 .nop .imp 2 .nopImp1a),
  unofficial (entry2 .slo .aby 7 .sloAby),
  unofficial (entry2 .nop .abx 4 .nopAbx1c),
  entry2 .ora .abx 4 .oraAbx,
  entry2 .asl .abx 7 .aslAbx,
  unofficial (entry2 .slo .abx 7 .sloAbx)]

/-- Row $2x of R114. -/
def opRow2 : List OpEntry := [
  entry2 .jsr .abs 6 .jsr,
  entry1 .and .izx 6 .andIzx,
  illegalEntry .xxx22,
  unofficial (entry1 .rla .izx 8 .rlaIzx),
  entry1 .bit .zp0 3 .bitZp0,
  entry1 .and .zp0 3 .andZp0,
  entry1 .rol .zp0 5 .rolZp0,
  unofficial (entry1 .rla .zp0 5 .rlaZp0),
  entry0 .plp .imp 4 .plp,
  entry1 .and .imm 2 .andImm,
  entry0 .rol .acc 2 .rolAcc,
  illegalEntry .xxx2b,
  entry2 .bit .abs 4 .bitAbs,
  entry2 .and .abs 4 .andAbs,
  entry2 .rol .abs 6 .rolAbs,
  unofficial (entry2 .rla .abs 6 .rlaAbs)]

/-- Row $3x of R114. -/
def opRow3 : List OpEntry := [
  entryB .bmi .bmi,
  entry1 .and .izy 5 .andIzy,
  illegalEntry .xxx32,
  unofficial (entry1 .rla .izy 8 .rlaIzy),
  unofficial (entry1 .nop .zpx 4 .nopZpx34),
  entry1 .and .zpx 4 .andZpx,
  entry1 .rol .zpx 6 .rolZpx,
  unofficial (entry1 .rla .zpx 6 .rlaZpx),
  entry0 .sec .imp 2 .sec,
  entry2 .and .aby 4 .andAby,
  unofficial (entry0 .nop .imp 2 .nopImp3a),
  unofficial (entry2 .rla .aby 7 .rlaAby),
  unofficial (entry2 .nop .abx 4 .nopAbx3c),
  entry2 .and .abx 4 .andAbx,
  entry2 .rol .abx 7 .rolAbx,
  unofficial (entry2 .rla .abx 7 .rlaAbx)]

/-- Row $4x of R114. -/
def opRow4 : List OpEntry := [
  entry0 .rti .imp 6 .rti,
  entry1 .eor .izx 6 .eorIzx,
  illegalEntry .xxx42,
  unofficial (entry1 .sre .izx 8 .sreIzx),
  unofficial (entry1 .nop .zp0 3 .nopZp044),
  entry1 .eor .zp0 3 .eorZp0,
  entry1 .lsr .zp0 5 .lsrZp0,
  unofficial (entry1 .sre .zp0 5 .sreZp0),
  entry0 .pha .imp 3 .pha,
  entry1 .eor .imm 2 .eorImm,
  entry0 .lsr .acc 2 .lsrAcc,
  illegalEntry .xxx4b,
  entry2 .jmp .abs 3 .jmpAbs,
  entry2 .eor .abs 4 .eorAbs,
  entry2 .lsr .abs 6 .lsrAbs,
  unofficial (entry2 .sre .abs 6 .sreAbs)]

/-- Row $5x of R114. -/
def opRow5 : List OpEntry := [
  entryB .bvc .bvc,
  entry1 .eor .izy 5 .eorIzy,
  illegalEntry .xxx52,
  unofficial (entry1 .sre .izy 8 .sreIzy),
  unofficial (entry1 .nop .zpx 4 .nopZpx54),
  entry1 .eor .zpx 4 .eorZpx,
  entry1 .lsr .zpx 6 .lsrZpx,
  unofficial (entry1 .sre .zpx 6 .sreZpx),
  entry0 .cli .imp 2 .cli,
  entry2 .eor .aby 4 .eorAby,
  unofficial (entry0 .nop .imp 2 .nopImp5a),
  unofficial (entry2 .sre .aby 7 .sreAby),
  unofficial (entry2 .nop .abx 4 .nopAbx5c),
  entry2 .eor .abx 4 .eorAbx,
  entry2 .lsr .abx 7 .lsrAbx,
  unofficial (entry2 .sre .abx 7 .sreAbx)]

/-- Row $6x of R114. -/
def opRow6 : List OpEntry := [
  entry0 .rts .imp 6 .rts,
  entry1 .adc .izx 6 .adcIzx,
  illegalEntry .xxx62,
  unofficial (entry1 .rra .izx 8 .rraIzx),
  unofficial (entry1 .nop .zp0 3 .nopZp064),
  entry1 .adc .zp0 3 .adcZp0,
  entry1 .ror .zp0 5 .rorZp0,
  unofficial (entry1 .rra .zp0 5 .rraZp0),
  entry0 .pla .imp 4 .pla,
  entry1 .adc .imm 2 .adcImm,
  entry0 .ror .acc 2 .rorAcc,
  illegalEntry .xxx6b,
  entry2 .jmp .ind 5 .jmpInd,
  entry2 .adc .abs 4 .adcAbs,
  entry2 .ror .abs 6 .rorAbs,
  unofficial (entry2 .rra .abs 6 .rraAbs)]

/-- Row $7x of R114. -/
def opRow7 : List OpEntry := [
  entryB .bvs .bvs,
  entry1 .adc .izy 5 .adcIzy,
  illegalEntry .xxx72,
  unofficial (entry1 .rra .izy 8 .rraIzy),
  unofficial (entry1 .nop .zpx 4 .nopZpx74),
  entry1 .adc .zpx 4 .adcZpx,
  entry1 .ror .zpx 6 .rorZpx,
  unofficial (entry1 .rra .zpx 6 .rraZpx),
  entry0 .sei .imp 2 .sei,
  entry2 .adc .aby 4 .adcAby,
  unofficial (entry0 .nop .imp 2 .nopImp7a),
  unofficial (entry2 .rra .aby 7 .rraAby),
  unofficial (entry2 .nop .abx 4 .nopAbx7c),
  entry2 .adc .abx 4 .adcAbx,
  entry2 .ror .abx 7 .rorAbx,
  unofficial (entry2 .rra .abx 7 .rraAbx)]

/-- Row $8x of R114. -/
def opRow8 : List OpEntry := [
  unofficial (entry1 .nop .imm 2 .nopImm80),
  entry1 .sta .izx 6 .staIzx,
  unofficial (entry1 .nop .imm 2 .nopImm82),
  unofficial (entry1 .sax .izx 6 .saxIzx),
  entry1 .sty .zp0 3 .styZp0,
  entry1 .sta .zp0 3 .staZp0,
  entry1 .stx .zp0 3 .stxZp0,
  unofficial (entry1 .sax .zp0 3 .saxZp0),
  entry0 .dey .imp 2 .dey,
  unofficial (entry1 .nop .imm 2 .nopImm89),
  entry0 .txa .imp 2 .txa,
  illegalEntry .xxx8b,
  entry2 .sty .abs 4 .styAbs,
  entry2 .sta .abs 4 .staAbs,
  entry2 .stx .abs 4 .stxAbs,
  unofficial (entry2 .sax .abs 4 .saxAbs)]

/-- Row $9x of R114. -/
def opRow9 : List OpEntry := [
  entryB .bcc .bcc,
  entry1 .sta .izy 6 .staIzy,
  illegalEntry .xxx92,
  illegalEntry .xxx93,
  entry1 .sty .zpx 4 .styZpx,
  entry1 .sta .zpx 4 .staZpx,
  entry1 .stx .zpy 4 .stxZpy,
  unofficial (entry1 .sax .zpy 4 .saxZpy),
  entry0 .tya .imp 2 .tya,
  entry2 .sta .aby 5 .staAby,
  entry0 .txs .imp 2 .txs,
  illegalEntry .xxx9b,
  illegalEntry .xxx9c,
  entry2 .sta .abx 5 .staAbx,
  illegalEntry .xxx9e,
  illegalEntry .xxx9f]

/-- Row $Ax of R114. -/
def opRowA : List OpEntry := [
  entry1 .ldy .imm 2 .ldyImm,
  entry1 .lda .izx 6 .ldaIzx,
  entry1 .ldx .imm 2 .ldxImm,
  unofficial (entry1 .lax .izx 6 .laxIzx),
  entry1 .ldy .zp0 3 .ldyZp0,
  entry1 .lda .zp0 3 .ldaZp0,
  entry1 .ldx .zp0 3 .ldxZp0,
  unofficial (entry1 .lax .zp0 3 .laxZp0),
  entry0 .tay .imp 2 .tay,
  entry1 .lda .imm 2 .ldaImm,
  entry0 .tax .imp 2 .tax,
  illegalEntry .xxxab,
  entry2 .ldy .abs 4 .ldyAbs,
  entry2 .lda .abs 4 .ldaAbs,
  entry2 .ldx .abs 4 .ldxAbs,
  unofficial (entry2 .lax .abs 4 .laxAbs)]

/-- Row $Bx of R114. -/
def opRowB : List OpEntry := [
  entryB .bcs .bcs,
  entry1 .lda .izy 5 .ldaIzy,
  illegalEntry .xxxb2,
  unofficial (entry1 .lax .izy 5 .laxIzy),
  entry1 .ldy .zpx 4 .ldyZpx,
  entry1 .lda .zpx 4 .ldaZpx,
  entry1 .ldx .zpy 4 .ldxZpy,
  unofficial (entry1 .lax .zpy 4 .laxZpy),
  entry0 .clv .imp 2 .clv,
  entry2 .lda .aby 4 .ldaAby,
  entry0 .tsx .imp 2 .tsx,
  illegalEntry .xxxbb,
  entry2 .ldy .abx 4 .ldyAbx,
  entry2 .lda .abx 4 .ldaAbx,
  entry2 .ldx .aby 4 .ldxAby,
  unofficial (entry2 .lax .aby 4 .laxAby)]

/-- Row $Cx of R114. -/
def opRowC : List OpEntry := [
  entry1 .cpy .imm 2 .cpyImm,
  entry1 .cmp .izx 6 .cmpIzx,
  unofficial (entry1 .nop .imm 2 .nopImmc2),
  unofficial (entry1 .dcp .izx 8 .dcpIzx),
  entry1 .cpy .zp0 3 .cpyZp0,
  entry1 .cmp .zp0 3 .cmpZp0,
  entry1 .dec .zp0 5 .decZp0,
  unofficial (entry1 .dcp .zp0 5 .dcpZp0),
  entry0 .iny .imp 2 .iny,
  entry1 .cmp .imm 2 .cmpImm,
  entry0 .dex .imp 2 .dex,
  illegalEntry .xxxcb,
  entry2 .cpy .abs 4 .cpyAbs,
  entry2 .cmp .abs 4 .cmpAbs,
  entry2 .dec .abs 6 .decAbs,
  unofficial (entry2 .dcp .abs 6 .dcpAbs)]

/-- Row $Dx of R114. -/
def opRowD : List OpEntry := [
  entryB .bne .bne,
  entry1 .cmp .izy 5 .cmpIzy,
  illegalEntry .xxxd2,
  unofficial (entry1 .dcp .izy 8 .dcpIzy),
  unofficial (entry1 .nop .zpx 4 .nopZpxd4),
  entry1 .cmp .zpx 4 .cmpZpx,
  entry1 .dec .zpx 6 .decZpx,
  unofficial (entry1 .dcp .zpx 6 .dcpZpx),
  entry0 .cld .imp 2 .cld,
  entry2 .cmp .aby 4 .cmpAby,
  unofficial (entry0 .nop .imp 2 .nopImpda),
  unofficial (entry2 .dcp .aby 7 .dcpAby),
  unofficial (entry2 .nop .abx 4 .nopAbxdc),
  entry2 .cmp .abx 4 .cmpAbx,
  entry2 .dec .abx 7 .decAbx,
  unofficial (entry2 .dcp .abx 7 .dcpAbx)]

/-- Row $Ex of R114. -/
def opRowE : List OpEntry := [
  entry1 .cpx .imm 2 .cpxImm,
  entry1 .sbc .izx 6 .sbcIzx,
  unofficial (entry1 .nop .imm 2 .nopImme2),
  unofficial (entry1 .isc .izx 8 .iscIzx),
  entry1 .cpx .zp0 3 .cpxZp0,
  entry1 .sbc .zp0 3 .sbcZp0,
  entry1 .inc .zp0 5 .incZp0,
  unofficial (entry1 .isc .zp0 5 .iscZp0),
  entry0 .inx .imp 2 .inx,
  entry1 .sbc .imm 2 .sbcImm,
  entry0 .nop .imp 2 .nop,
  unofficial (entry1 .sbc .imm 2 .sbcImmEb),
  entry2 .cpx .abs 4 .cpxAbs,
  entry2 .sbc .abs 4 .sbcAbs,
  entry2 .inc .abs 6 .incAbs,
  unofficial (entry2 .isc .abs 6 .iscAbs)]

/-- Row $Fx of R114. -/
def opRowF : List OpEntry := [
  entryB .beq .beq,
  entry1 .sbc .izy 5 .sbcIzy,
  illegalEntry .xxxf2,
  unofficial (entry1 .isc .izy 8 .iscIzy),
  unofficial (entry1 .nop .zpx 4 .nopZpxf4),
  entry1 .sbc .zpx 4 .sbcZpx,
  entry1 .inc .zpx 6 .incZpx,
  unofficial (entry1 .isc .zpx 6 .iscZpx),
  entry0 .sed .imp 2 .sed,
  entry2 .sbc .aby 4 .sbcAby,
  unofficial (entry0 .nop .imp 2 .nopImpfa),
  unofficial (entry2 .isc .aby 7 .iscAby),
  unofficial (entry2 .nop .abx 4 .nopAbxfc),
  entry2 .sbc .abx 4 .sbcAbx,
  entry2 .inc .abx 7 .incAbx,
  unofficial (entry2 .isc .abx 7 .iscAbx)]

/-- The 256-entry table of R114, its sixteen rows in order. -/
def opTable : List OpEntry :=
  opRow0 ++ opRow1 ++ opRow2 ++ opRow3 ++ opRow4 ++ opRow5 ++ opRow6 ++ opRow7 ++
  opRow8 ++ opRow9 ++ opRowA ++ opRowB ++ opRowC ++ opRowD ++ opRowE ++ opRowF

/-- `TABLE[opcode]` (R113). The default is never reached: the table has 256 entries. -/
def entryOf (op : Byte) : OpEntry := opTable.getD op.toNat (illegalEntry .xxx02)

/-- Bytes of the instruction that begins with this byte (R110). -/
def instrLength (op : Byte) : Nat := (entryOf op).mode.length

/-- The instruction of an opcode byte and the two bytes after it, those its mode uses. -/
def instrOf (op b1 b2 : Byte) : Instr := (entryOf op).build b1 b2

/-! ### The decoder -/

/-- What decoding a list of bytes answers. -/
inductive DecodeResult where
  /-- The instruction and the bytes after it. -/
  | instr (i : Instr) (rest : List Byte)
  /-- There is no byte. -/
  | noBytes
  /-- The list ends before the operand bytes of this opcode do. -/
  | truncated (op : Byte)
deriving DecidableEq, Repr

/-- Decode the first instruction of a list of bytes. -/
def decode : List Byte → DecodeResult
  | [] => .noBytes
  | op :: rest =>
    match instrLength op, rest with
    | 1, r => .instr (instrOf op 0 0) r
    | 2, b1 :: r => .instr (instrOf op b1 0) r
    | 3, b1 :: b2 :: r => .instr (instrOf op b1 b2) r
    | _, _ => .truncated op

/-- How many of an instruction's operand bytes the CPU fetches with bus reads: the modes read each operand
byte once (40_engine_addressing.md R138), but a no-operation in mode IMM only steps over its byte, because the
mode routine sets `ea` and nothing calls `fetch()` (R142, 44_unofficial.md R251). -/
inductive OperandFetch where
  | none
  | skipped
  | one
  | two
deriving DecidableEq, Repr

def operandFetch (e : OpEntry) : OperandFetch :=
  match e.mode.length with
  | 1 => .none
  | 2 => if e.mode = .imm ∧ e.mnemonic = .nop then .skipped else .one
  | _ => .two

/-- The k-th byte of a table word: bit 0 is the least significant bit of the first byte. -/
def tableByte (w k : Nat) : Byte := BitVec.ofNat 8 (w / 256 ^ k)

/-- The three bytes a table word of `nbits` bits lays out, zero above `nbits`. -/
def tableBytes (nbits w : Nat) : List Byte :=
  let bits := w % 2 ^ nbits
  [tableByte bits 0, tableByte bits 1, tableByte bits 2]

/-- The instruction the decoder reads from a table word. -/
def decodeTableWord (nbits w : Nat) : Option Instr :=
  match decode (tableBytes nbits w) with
  | .instr i _ => some i
  | .noBytes | .truncated _ => none

/-! ### The encoder -/

/-- The bytes of an instruction (R111, R114). -/
def encode : Instr → List Byte
  | .brk => [0x00]
  | .oraIzx z => [0x01, z]
  | .xxx02 => [0x02]
  | .sloIzx z => [0x03, z]
  | .nopZp004 z => [0x04, z]
  | .oraZp0 z => [0x05, z]
  | .aslZp0 z => [0x06, z]
  | .sloZp0 z => [0x07, z]
  | .php => [0x08]
  | .oraImm n => [0x09, n]
  | .aslAcc => [0x0A]
  | .xxx0b => [0x0B]
  | .nopAbs0c w => [0x0C, loByte w, hiByte w]
  | .oraAbs w => [0x0D, loByte w, hiByte w]
  | .aslAbs w => [0x0E, loByte w, hiByte w]
  | .sloAbs w => [0x0F, loByte w, hiByte w]
  | .bpl d => [0x10, byteOfDisp d]
  | .oraIzy z => [0x11, z]
  | .xxx12 => [0x12]
  | .sloIzy z => [0x13, z]
  | .nopZpx14 z => [0x14, z]
  | .oraZpx z => [0x15, z]
  | .aslZpx z => [0x16, z]
  | .sloZpx z => [0x17, z]
  | .clc => [0x18]
  | .oraAby w => [0x19, loByte w, hiByte w]
  | .nopImp1a => [0x1A]
  | .sloAby w => [0x1B, loByte w, hiByte w]
  | .nopAbx1c w => [0x1C, loByte w, hiByte w]
  | .oraAbx w => [0x1D, loByte w, hiByte w]
  | .aslAbx w => [0x1E, loByte w, hiByte w]
  | .sloAbx w => [0x1F, loByte w, hiByte w]
  | .jsr w => [0x20, loByte w, hiByte w]
  | .andIzx z => [0x21, z]
  | .xxx22 => [0x22]
  | .rlaIzx z => [0x23, z]
  | .bitZp0 z => [0x24, z]
  | .andZp0 z => [0x25, z]
  | .rolZp0 z => [0x26, z]
  | .rlaZp0 z => [0x27, z]
  | .plp => [0x28]
  | .andImm n => [0x29, n]
  | .rolAcc => [0x2A]
  | .xxx2b => [0x2B]
  | .bitAbs w => [0x2C, loByte w, hiByte w]
  | .andAbs w => [0x2D, loByte w, hiByte w]
  | .rolAbs w => [0x2E, loByte w, hiByte w]
  | .rlaAbs w => [0x2F, loByte w, hiByte w]
  | .bmi d => [0x30, byteOfDisp d]
  | .andIzy z => [0x31, z]
  | .xxx32 => [0x32]
  | .rlaIzy z => [0x33, z]
  | .nopZpx34 z => [0x34, z]
  | .andZpx z => [0x35, z]
  | .rolZpx z => [0x36, z]
  | .rlaZpx z => [0x37, z]
  | .sec => [0x38]
  | .andAby w => [0x39, loByte w, hiByte w]
  | .nopImp3a => [0x3A]
  | .rlaAby w => [0x3B, loByte w, hiByte w]
  | .nopAbx3c w => [0x3C, loByte w, hiByte w]
  | .andAbx w => [0x3D, loByte w, hiByte w]
  | .rolAbx w => [0x3E, loByte w, hiByte w]
  | .rlaAbx w => [0x3F, loByte w, hiByte w]
  | .rti => [0x40]
  | .eorIzx z => [0x41, z]
  | .xxx42 => [0x42]
  | .sreIzx z => [0x43, z]
  | .nopZp044 z => [0x44, z]
  | .eorZp0 z => [0x45, z]
  | .lsrZp0 z => [0x46, z]
  | .sreZp0 z => [0x47, z]
  | .pha => [0x48]
  | .eorImm n => [0x49, n]
  | .lsrAcc => [0x4A]
  | .xxx4b => [0x4B]
  | .jmpAbs w => [0x4C, loByte w, hiByte w]
  | .eorAbs w => [0x4D, loByte w, hiByte w]
  | .lsrAbs w => [0x4E, loByte w, hiByte w]
  | .sreAbs w => [0x4F, loByte w, hiByte w]
  | .bvc d => [0x50, byteOfDisp d]
  | .eorIzy z => [0x51, z]
  | .xxx52 => [0x52]
  | .sreIzy z => [0x53, z]
  | .nopZpx54 z => [0x54, z]
  | .eorZpx z => [0x55, z]
  | .lsrZpx z => [0x56, z]
  | .sreZpx z => [0x57, z]
  | .cli => [0x58]
  | .eorAby w => [0x59, loByte w, hiByte w]
  | .nopImp5a => [0x5A]
  | .sreAby w => [0x5B, loByte w, hiByte w]
  | .nopAbx5c w => [0x5C, loByte w, hiByte w]
  | .eorAbx w => [0x5D, loByte w, hiByte w]
  | .lsrAbx w => [0x5E, loByte w, hiByte w]
  | .sreAbx w => [0x5F, loByte w, hiByte w]
  | .rts => [0x60]
  | .adcIzx z => [0x61, z]
  | .xxx62 => [0x62]
  | .rraIzx z => [0x63, z]
  | .nopZp064 z => [0x64, z]
  | .adcZp0 z => [0x65, z]
  | .rorZp0 z => [0x66, z]
  | .rraZp0 z => [0x67, z]
  | .pla => [0x68]
  | .adcImm n => [0x69, n]
  | .rorAcc => [0x6A]
  | .xxx6b => [0x6B]
  | .jmpInd w => [0x6C, loByte w, hiByte w]
  | .adcAbs w => [0x6D, loByte w, hiByte w]
  | .rorAbs w => [0x6E, loByte w, hiByte w]
  | .rraAbs w => [0x6F, loByte w, hiByte w]
  | .bvs d => [0x70, byteOfDisp d]
  | .adcIzy z => [0x71, z]
  | .xxx72 => [0x72]
  | .rraIzy z => [0x73, z]
  | .nopZpx74 z => [0x74, z]
  | .adcZpx z => [0x75, z]
  | .rorZpx z => [0x76, z]
  | .rraZpx z => [0x77, z]
  | .sei => [0x78]
  | .adcAby w => [0x79, loByte w, hiByte w]
  | .nopImp7a => [0x7A]
  | .rraAby w => [0x7B, loByte w, hiByte w]
  | .nopAbx7c w => [0x7C, loByte w, hiByte w]
  | .adcAbx w => [0x7D, loByte w, hiByte w]
  | .rorAbx w => [0x7E, loByte w, hiByte w]
  | .rraAbx w => [0x7F, loByte w, hiByte w]
  | .nopImm80 n => [0x80, n]
  | .staIzx z => [0x81, z]
  | .nopImm82 n => [0x82, n]
  | .saxIzx z => [0x83, z]
  | .styZp0 z => [0x84, z]
  | .staZp0 z => [0x85, z]
  | .stxZp0 z => [0x86, z]
  | .saxZp0 z => [0x87, z]
  | .dey => [0x88]
  | .nopImm89 n => [0x89, n]
  | .txa => [0x8A]
  | .xxx8b => [0x8B]
  | .styAbs w => [0x8C, loByte w, hiByte w]
  | .staAbs w => [0x8D, loByte w, hiByte w]
  | .stxAbs w => [0x8E, loByte w, hiByte w]
  | .saxAbs w => [0x8F, loByte w, hiByte w]
  | .bcc d => [0x90, byteOfDisp d]
  | .staIzy z => [0x91, z]
  | .xxx92 => [0x92]
  | .xxx93 => [0x93]
  | .styZpx z => [0x94, z]
  | .staZpx z => [0x95, z]
  | .stxZpy z => [0x96, z]
  | .saxZpy z => [0x97, z]
  | .tya => [0x98]
  | .staAby w => [0x99, loByte w, hiByte w]
  | .txs => [0x9A]
  | .xxx9b => [0x9B]
  | .xxx9c => [0x9C]
  | .staAbx w => [0x9D, loByte w, hiByte w]
  | .xxx9e => [0x9E]
  | .xxx9f => [0x9F]
  | .ldyImm n => [0xA0, n]
  | .ldaIzx z => [0xA1, z]
  | .ldxImm n => [0xA2, n]
  | .laxIzx z => [0xA3, z]
  | .ldyZp0 z => [0xA4, z]
  | .ldaZp0 z => [0xA5, z]
  | .ldxZp0 z => [0xA6, z]
  | .laxZp0 z => [0xA7, z]
  | .tay => [0xA8]
  | .ldaImm n => [0xA9, n]
  | .tax => [0xAA]
  | .xxxab => [0xAB]
  | .ldyAbs w => [0xAC, loByte w, hiByte w]
  | .ldaAbs w => [0xAD, loByte w, hiByte w]
  | .ldxAbs w => [0xAE, loByte w, hiByte w]
  | .laxAbs w => [0xAF, loByte w, hiByte w]
  | .bcs d => [0xB0, byteOfDisp d]
  | .ldaIzy z => [0xB1, z]
  | .xxxb2 => [0xB2]
  | .laxIzy z => [0xB3, z]
  | .ldyZpx z => [0xB4, z]
  | .ldaZpx z => [0xB5, z]
  | .ldxZpy z => [0xB6, z]
  | .laxZpy z => [0xB7, z]
  | .clv => [0xB8]
  | .ldaAby w => [0xB9, loByte w, hiByte w]
  | .tsx => [0xBA]
  | .xxxbb => [0xBB]
  | .ldyAbx w => [0xBC, loByte w, hiByte w]
  | .ldaAbx w => [0xBD, loByte w, hiByte w]
  | .ldxAby w => [0xBE, loByte w, hiByte w]
  | .laxAby w => [0xBF, loByte w, hiByte w]
  | .cpyImm n => [0xC0, n]
  | .cmpIzx z => [0xC1, z]
  | .nopImmc2 n => [0xC2, n]
  | .dcpIzx z => [0xC3, z]
  | .cpyZp0 z => [0xC4, z]
  | .cmpZp0 z => [0xC5, z]
  | .decZp0 z => [0xC6, z]
  | .dcpZp0 z => [0xC7, z]
  | .iny => [0xC8]
  | .cmpImm n => [0xC9, n]
  | .dex => [0xCA]
  | .xxxcb => [0xCB]
  | .cpyAbs w => [0xCC, loByte w, hiByte w]
  | .cmpAbs w => [0xCD, loByte w, hiByte w]
  | .decAbs w => [0xCE, loByte w, hiByte w]
  | .dcpAbs w => [0xCF, loByte w, hiByte w]
  | .bne d => [0xD0, byteOfDisp d]
  | .cmpIzy z => [0xD1, z]
  | .xxxd2 => [0xD2]
  | .dcpIzy z => [0xD3, z]
  | .nopZpxd4 z => [0xD4, z]
  | .cmpZpx z => [0xD5, z]
  | .decZpx z => [0xD6, z]
  | .dcpZpx z => [0xD7, z]
  | .cld => [0xD8]
  | .cmpAby w => [0xD9, loByte w, hiByte w]
  | .nopImpda => [0xDA]
  | .dcpAby w => [0xDB, loByte w, hiByte w]
  | .nopAbxdc w => [0xDC, loByte w, hiByte w]
  | .cmpAbx w => [0xDD, loByte w, hiByte w]
  | .decAbx w => [0xDE, loByte w, hiByte w]
  | .dcpAbx w => [0xDF, loByte w, hiByte w]
  | .cpxImm n => [0xE0, n]
  | .sbcIzx z => [0xE1, z]
  | .nopImme2 n => [0xE2, n]
  | .iscIzx z => [0xE3, z]
  | .cpxZp0 z => [0xE4, z]
  | .sbcZp0 z => [0xE5, z]
  | .incZp0 z => [0xE6, z]
  | .iscZp0 z => [0xE7, z]
  | .inx => [0xE8]
  | .sbcImm n => [0xE9, n]
  | .nop => [0xEA]
  | .sbcImmEb n => [0xEB, n]
  | .cpxAbs w => [0xEC, loByte w, hiByte w]
  | .sbcAbs w => [0xED, loByte w, hiByte w]
  | .incAbs w => [0xEE, loByte w, hiByte w]
  | .iscAbs w => [0xEF, loByte w, hiByte w]
  | .beq d => [0xF0, byteOfDisp d]
  | .sbcIzy z => [0xF1, z]
  | .xxxf2 => [0xF2]
  | .iscIzy z => [0xF3, z]
  | .nopZpxf4 z => [0xF4, z]
  | .sbcZpx z => [0xF5, z]
  | .incZpx z => [0xF6, z]
  | .iscZpx z => [0xF7, z]
  | .sed => [0xF8]
  | .sbcAby w => [0xF9, loByte w, hiByte w]
  | .nopImpfa => [0xFA]
  | .iscAby w => [0xFB, loByte w, hiByte w]
  | .nopAbxfc w => [0xFC, loByte w, hiByte w]
  | .sbcAbx w => [0xFD, loByte w, hiByte w]
  | .incAbx w => [0xFE, loByte w, hiByte w]
  | .iscAbx w => [0xFF, loByte w, hiByte w]

/-- The opcode byte of an instruction. -/
def opcodeOf (i : Instr) : Byte := (encode i).headD 0#8

end Sys2Proof
end

