-- ==== Sys2Proof/Machine/Faults.lean ====
section
/-! DEFINITION. Raising the two faults of the block (spec/00_scope.md R10, spec/10_state.md R39). A fault
is recorded in the state; nothing but construction clears it. -/

namespace Sys2Proof.Machine

/-- "`SYS.fault` (if it is still empty)" (R10). -/
def recordFault (f : Fault) (s : State) : State :=
  match s.fault with
  | none => { s with fault := some f }
  | some _ => s

/-- `raise RomWrite(bus, addr, v)` (60_exceptions.md R267): ignore sets the sticky bit, fault records and
halts. -/
def raiseRomWrite (bus : Bus) (addr : Addr) (v : Byte) (s : State) : State :=
  match s.params.romWrite with
  | .ignore => { s with romWriteSeen := true }
  | .fault => { recordFault (.romWrite bus addr v) s with halted := true }

/-- `raise IllegalOpcode(addr, op)` (R266): recorded under either policy. -/
def raiseIllegalOpcode (addr : Addr) (op : Byte) (s : State) : State :=
  recordFault (.illegalOpcode addr op) s

end Sys2Proof.Machine
end

