-- ==== Sys2Proof/Machine/Flags.lean ====
section
/-! DEFINITION. The status register P (spec/10_state.md R23) and every flag computation of the spec:
`setZN` (00_scope.md R9), the adder, the comparison, the shifts and rotates (42_arith_logic.md R180 to
R182), BIT (R188). "value-on-byte, not as separate booleans": P stays a byte. -/

namespace Sys2Proof.Machine

/-- The eight bit positions of P. -/
inductive Flag where
  | c
  | z
  | i
  | d
  | b
  | u
  | v
  | n
deriving DecidableEq, Repr

/-- "Bit indices C=0, Z=1, I=2, D=3, B=4, U=5, V=6, N=7" (R23). -/
def Flag.index : Flag → Nat
  | .c => 0
  | .z => 1
  | .i => 2
  | .d => 3
  | .b => 4
  | .u => 5
  | .v => 6
  | .n => 7

/-- `P.f`: the flag's bit of the byte. -/
def getFlag (f : Flag) (p : Byte) : Bool := p.getLsbD f.index

/-- `P.f <- b`: the byte with that one bit replaced. -/
def putFlag (f : Flag) (b : Bool) (p : Byte) : Byte :=
  (p &&& ~~~(1#8 <<< f.index)) ||| ((BitVec.ofBool b).setWidth 8 <<< f.index)

/-- `setZN(v)` on a status byte: `P.Z <- (v == 0); P.N <- v[7]` (R9). -/
def putZN (v : Byte) (p : Byte) : Byte := putFlag .n (v.getLsbD 7) (putFlag .z (v == 0#8) p)

def State.flag (f : Flag) (s : State) : Bool := getFlag f s.p

def setFlag (f : Flag) (b : Bool) (s : State) : State := { s with p := putFlag f b s.p }

def setZN (v : Byte) (s : State) : State := { s with p := putZN v s.p }

/-- The exact sum of the adder, 0..511, before it is narrowed (R180). -/
def adderSum (a m : Byte) (c : Bool) : Nat := a.toNat + m.toNat + c.toNat

/-- `ADD(m)` (R180): carry from the exact sum, overflow by the source's formula, Z and N of the result.
D is not read (R206). -/
def addToA (m : Byte) (s : State) : State :=
  let sum := adderSum s.a m (s.flag .c)
  let r : Byte := BitVec.ofNat 8 sum
  let v := ((s.a ^^^ r) &&& (m ^^^ r) &&& 0x80#8) != 0#8
  setZN r { s with a := r, p := putFlag .v v (putFlag .c (decide (sum > 0xFF)) s.p) }

/-- `COMPARE(r, m)` (R181): C is `r >= m` unsigned, Z and N of the difference; no register, no V. -/
def compareBytes (r m : Byte) (s : State) : State :=
  setZN (r - m) (setFlag .c (decide (m ≤ r)) s)

/-- The flags of BIT (R188): `P.Z <- ((A & m) == 0); P.V <- m[6]; P.N <- m[7]`. -/
def bitTest (m : Byte) (s : State) : State :=
  setFlag .n (m.getLsbD 7) (setFlag .v (m.getLsbD 6) (setFlag .z ((s.a &&& m) == 0#8) s))

/-- `SHL(v)` (R182). -/
def shiftLeft (v : Byte) (s : State) : Byte × State := (v <<< 1, setFlag .c (v.getLsbD 7) s)

/-- `SHR(v)` (R182). -/
def shiftRight (v : Byte) (s : State) : Byte × State := (v >>> 1, setFlag .c (v.getLsbD 0) s)

/-- `ROLc(v)` (R182): the old carry enters bit 0. -/
def rotateLeft (v : Byte) (s : State) : Byte × State :=
  ((v <<< 1) ||| (BitVec.ofBool (s.flag .c)).setWidth 8, setFlag .c (v.getLsbD 7) s)

/-- `RORc(v)` (R182): the old carry enters bit 7. -/
def rotateRight (v : Byte) (s : State) : Byte × State :=
  ((v >>> 1) ||| ((BitVec.ofBool (s.flag .c)).setWidth 8 <<< 7), setFlag .c (v.getLsbD 0) s)

/-- The status byte PHP and BRK push: B and U forced set (10_state.md R24). -/
def pushedByInstruction (p : Byte) : Byte := p ||| 0x30#8

/-- The status byte IRQ and NMI entry push: B = 0, U = 1 (R24, 60_exceptions.md R261). -/
def pushedByInterrupt (p : Byte) : Byte := (p &&& ~~~0x10#8) ||| 0x20#8

/-- What PLP and RTI store of a pulled byte: B and U written 0 (R24, D10). -/
def pulledStatus (v : Byte) : Byte := v &&& 0xCF#8

end Sys2Proof.Machine
end

