-- ==== Sys2Proof/Machine/Memory.lean ====
section
/-! DEFINITION. Byte memories (spec/20_memory.md R63, spec/10_state.md R37): reading and writing one
byte, the canonical form, and building a memory from a list of bytes. -/

namespace Sys2Proof.Machine

/-- What an address that is not listed reads as: memories "are created zeroed" (R37, log 1). -/
def Memory.unlisted : Byte := 0#8

/-- The byte at an index. -/
def Memory.read : Memory → Nat → Byte
  | [], _ => Memory.unlisted
  | (k, b) :: rest, n => if k = n then b else Memory.read rest n

/-- Store a byte, keeping the canonical form: storing what an unlisted address reads as removes the
cell. -/
def Memory.write : Memory → Nat → Byte → Memory
  | [], n, v => if v = Memory.unlisted then [] else [(n, v)]
  | (k, b) :: rest, n, v =>
    if n < k then (if v = Memory.unlisted then (k, b) :: rest else (n, v) :: (k, b) :: rest)
    else if n = k then (if v = Memory.unlisted then rest else (n, v) :: rest)
    else (k, b) :: Memory.write rest n v

/-- The canonical form from index `lo` up to `size`: rising indexes in range, no cell equal to what an
unlisted one reads as. -/
def Memory.wfFrom (size : Nat) : Nat → Memory → Bool
  | _, [] => true
  | lo, (k, b) :: rest => decide (lo ≤ k) && decide (k < size) && decide (b ≠ Memory.unlisted) && wfFrom size (k + 1) rest

/-- The canonical form of a memory of `size` bytes. -/
def Memory.wf (size : Nat) (m : Memory) : Bool := Memory.wfFrom size 0 m

/-- The canonical memory whose byte `base + k` is the k-th byte of a list. -/
def Memory.ofBytesFrom : Nat → List Byte → Memory
  | _, [] => []
  | base, b :: rest =>
    if b = Memory.unlisted then Memory.ofBytesFrom (base + 1) rest
    else (base, b) :: Memory.ofBytesFrom (base + 1) rest

/-- The canonical memory holding a list of bytes from index 0. -/
def Memory.ofBytes (bytes : List Byte) : Memory := Memory.ofBytesFrom 0 bytes

/-- The sizes of R5. -/
def ramSize : Nat := 2048
def vramSize : Nat := 2048
def palSize : Nat := 32
def chrSize : Nat := 8192
def PrgBanks.size : PrgBanks → Nat
  | .one => 16384
  | .two => 32768

end Sys2Proof.Machine
end

