-- ==== Sys2Proof/Machine/PpuBus.lean ====
section
/-! DEFINITION. The PPU bus (spec/20_memory.md R64, R65, R69 to R72, R77): the address decoder, nametable
mirroring, palette aliases, and the NROM mapper's four operations. -/

namespace Sys2Proof.Machine

/-- `mapPrgRead` (R70): "PRG addresses are masked with 0x7FFF (two banks) or 0x3FFF (one bank)". -/
def mapPrgRead (banks : PrgBanks) (a : Addr) : Nat :=
  match banks with
  | .two => (a &&& 0x7FFF#16).toNat
  | .one => (a &&& 0x3FFF#16).toNat

/-- `mapChrRead` (R71): "CHR addresses are passed through". -/
def mapChrRead (a : Addr) : Nat := a.toNat

/-- `mapPrgWrite` on NROM "must fail" (R69, R72). -/
def mapPrgWrite (a : Addr) (v : Byte) (s : State) : State := raiseRomWrite .cpu a v s

/-- `mapChrWrite` on NROM "must fail" (R69, R72). -/
def mapChrWrite (a : Addr) (v : Byte) (s : State) : State := raiseRomWrite .ppu a v s

/-- `a <- a & 0x3FFF` (R77, D20). -/
def ppuBusAddr (a : Addr) : Addr := a &&& 0x3FFF#16

/-- The rows of R77's table; the $3000 alias is a nametable row. -/
inductive PpuRegion where
  | pattern
  | nametable
  | palette
deriving DecidableEq, Repr

/-- Which row a 14-bit PPU-bus address falls in (R77). -/
def ppuRegion (a : Addr) : PpuRegion :=
  if a < 0x2000#16 then .pattern else if a < 0x3F00#16 then .nametable else .palette

/-- `vram_index(a)` (R64). -/
def vramIndex (mirror : Mirroring) (a : Addr) : Nat :=
  let n := a &&& 0x0FFF#16
  let table := n >>> 10
  let off := n &&& 0x03FF#16
  match mirror with
  | .horizontal => (((table >>> 1) <<< 10) ||| off).toNat
  | .vertical => (((table &&& 1#16) <<< 10) ||| off).toNat

/-- `pal_index(a)` (R65). -/
def palIndex (a : Addr) : Nat :=
  let i0 := a &&& 0x1F#16
  if i0 = 0x10#16 ∨ i0 = 0x14#16 ∨ i0 = 0x18#16 ∨ i0 = 0x1C#16 then (i0 &&& 0x0F#16).toNat else i0.toNat

def vramRead (a : Addr) (s : State) : Byte := s.vram.read (vramIndex s.cart.mirror a)

def palRead (a : Addr) (s : State) : Byte := s.pal.read (palIndex a)

def chrRead (a : Addr) (s : State) : Byte := s.cart.chr.read (mapChrRead a)

def prgRead (a : Addr) (s : State) : Byte := s.cart.prg.read (mapPrgRead s.cart.prgBanks a)

/-- `PpuRead(a)` (R77); a PPU-bus read has no side effect (R79). -/
def ppuRead (a : Addr) (s : State) : Byte :=
  match ppuRegion (ppuBusAddr a) with
  | .pattern => chrRead (ppuBusAddr a) s
  | .nametable => vramRead (ppuBusAddr a) s
  | .palette => palRead (ppuBusAddr a) s

/-- `PpuWrite(a, v)` (R77). -/
def ppuWrite (a : Addr) (v : Byte) (s : State) : State :=
  match ppuRegion (ppuBusAddr a) with
  | .pattern => mapChrWrite (ppuBusAddr a) v s
  | .nametable => { s with vram := s.vram.write (vramIndex s.cart.mirror (ppuBusAddr a)) v }
  | .palette => { s with pal := s.pal.write (palIndex (ppuBusAddr a)) v }

end Sys2Proof.Machine
end

