-- ==== Sys2Proof/Machine/PpuRegs.lean ====
section
/-! DEFINITION. The PPU as a device of the block: its CPU-bus registers (spec/60_exceptions.md R287 to
R295) and its dot and scanline state machine (R280 to R286). -/

namespace Sys2Proof.Machine

/-- The eight register offsets of the window (R287). -/
inductive PpuReg where
  | ctrl
  | mask
  | status
  | oamAddr
  | oamData
  | scroll
  | addr
  | data
deriving DecidableEq, Repr

/-- `r = a & 7` (R74, R287). -/
def ppuRegOf (a : Addr) : PpuReg :=
  match (a &&& 7#16).toNat with
  | 0 => .ctrl
  | 1 => .mask
  | 2 => .status
  | 3 => .oamAddr
  | 4 => .oamData
  | 5 => .scroll
  | 6 => .addr
  | _ => .data

/-- VBL, bit 7 of PPUSTATUS (10_state.md R32). -/
def Ppu.vbl (u : Ppu) : Bool := u.status.getLsbD 7

/-- NMI enable, bit 7 of PPUCTRL (10_state.md R30). -/
def Ppu.nmiEnable (u : Ppu) : Bool := u.ctrl.getLsbD 7

/-- The step of `v` after a PPUDATA access: bit 2 of PPUCTRL selects 1 or 32 (R292, R293); 15-bit wrap
(D20). -/
def Ppu.nextV (u : Ppu) : BitVec 15 := u.v + (if u.ctrl.getLsbD 2 then 32#15 else 1#15)

/-- The PPU-bus address of a PPUDATA access, `PPU.v & 0x3FFF`. -/
def Ppu.dataAddr (u : Ppu) : Addr := u.v.setWidth 16 &&& 0x3FFF#16

/-- The value `PpuRegRead(r)` returns (R287, R289, R293, R295); the unreadable offsets read 0 (D19). -/
def ppuRegValue (r : PpuReg) (s : State) : Byte :=
  match r with
  | .status => (s.ppu.status &&& 0xE0#8) ||| (s.ppu.buffer &&& 0x1F#8)
  | .data => if 0x3F00#16 ≤ s.ppu.dataAddr then ppuRead s.ppu.dataAddr s else s.ppu.buffer
  | .ctrl | .mask | .oamAddr | .oamData | .scroll | .addr => 0#8

/-- What `PpuRegRead(r)` does to the state: PPUSTATUS clears VBL and `w` (R289), PPUDATA refills the
buffer and steps `v` (R293), the others nothing (D19). -/
def ppuRegReadEffect (r : PpuReg) (s : State) : State :=
  match r with
  | .status => { s with ppu := { s.ppu with status := s.ppu.status &&& 0x7F#8, w := false } }
  | .data => { s with ppu := { s.ppu with buffer := ppuRead s.ppu.dataAddr s, v := s.ppu.nextV } }
  | .ctrl | .mask | .oamAddr | .oamData | .scroll | .addr => s

/-- PPUCTRL write (R288): all bits stored, bits 1:0 copied into `t[11:10]`. -/
def writePpuCtrl (d : Byte) (s : State) : State :=
  { s with ppu := { s.ppu with
      ctrl := d
      t := (s.ppu.t &&& ~~~0x0C00#15) ||| ((d.extractLsb' 0 2).setWidth 15 <<< 10) } }

/-- PPUMASK write (R290): "stores mask bits verbatim". -/
def writePpuMask (d : Byte) (s : State) : State := { s with ppu := { s.ppu with mask := d } }

/-- PPUSCROLL write (R291), a two-step operation gated by `w`. -/
def writePpuScroll (d : Byte) (s : State) : State :=
  if s.ppu.w then
    { s with ppu := { s.ppu with
        t := (s.ppu.t &&& ~~~0x73E0#15) ||| ((d.extractLsb' 0 3).setWidth 15 <<< 12)
              ||| ((d.extractLsb' 3 5).setWidth 15 <<< 5)
        w := false } }
  else
    { s with ppu := { s.ppu with
        x := d.extractLsb' 0 3
        t := (s.ppu.t &&& ~~~0x001F#15) ||| (d.extractLsb' 3 5).setWidth 15
        w := true } }

/-- PPUADDR write (R294): high byte first, the second write copies `t` into `v`. -/
def writePpuAddr (d : Byte) (s : State) : State :=
  if s.ppu.w then
    let t := (s.ppu.t &&& 0x7F00#15) ||| d.setWidth 15
    { s with ppu := { s.ppu with t := t, v := t, w := false } }
  else
    { s with ppu := { s.ppu with
        t := (s.ppu.t &&& 0x00FF#15) ||| ((d.extractLsb' 0 6).setWidth 15 <<< 8)
        w := true } }

/-- PPUDATA write (R292): through the PPU bus at `v`, then `v` steps, after a ROM write too. -/
def writePpuData (d : Byte) (s : State) : State :=
  let s1 := ppuWrite s.ppu.dataAddr d s
  { s1 with ppu := { s1.ppu with v := s1.ppu.nextV } }

/-- `PpuRegWrite(r, d)` (R287): PPUSTATUS, OAMADDR and OAMDATA ignore writes (R295). -/
def ppuRegWrite (r : PpuReg) (d : Byte) (s : State) : State :=
  match r with
  | .ctrl => writePpuCtrl d s
  | .mask => writePpuMask d s
  | .scroll => writePpuScroll d s
  | .addr => writePpuAddr d s
  | .data => writePpuData d s
  | .status | .oamAddr | .oamData => s

/-- `vblank_entry()` (R284): set VBL; if NMI is enabled, request it. -/
def vblankEntry (s : State) : State :=
  let s1 := { s with ppu := { s.ppu with status := s.ppu.status ||| 0x80#8 } }
  if s1.ppu.nmiEnable then { s1 with nmiPending := true } else s1

/-- `prerender_entry()` (R285). -/
def prerenderEntry (s : State) : State :=
  { s with ppu := { s.ppu with
      status := s.ppu.status &&& 0x1F#8
      frameComplete := true
      frameCount := s.ppu.frameCount + 1#64 } }

/-- A valid PPU position (10_state.md R28, R283). -/
def validPosition (scanline : Int) (dot : Nat) : Bool :=
  decide (-1 ≤ scanline) && decide (scanline ≤ 260) && decide (dot ≤ 340)

/-- The scanline after this one: "at scanline 261 the counter resets to -1" (R281). -/
def nextScanline (line : Int) : Int := if line + 1 = 261 then -1 else line + 1

/-- One dot on (R281): the frame-complete pulse is cleared, "transitions happen when the dot counter reaches 341". -/
def Ppu.advance (u : Ppu) : Ppu :=
  if u.dot + 1 = 341 then { u with frameComplete := false, dot := 0, scanline := nextScanline u.scanline }
  else { u with frameComplete := false, dot := u.dot + 1 }

/-- The event of the scanline just entered (R281, D16). -/
def scanlineEvent (s : State) : State :=
  if s.ppu.scanline = 241 then vblankEntry s
  else if s.ppu.scanline = -1 then prerenderEntry s
  else s

/-- `ppu_tick()` (R281): advance one dot, and on entering a scanline perform its event. -/
def ppuTick (s : State) : State :=
  if s.ppu.dot + 1 = 341 then scanlineEvent { s with ppu := s.ppu.advance }
  else { s with ppu := s.ppu.advance }

end Sys2Proof.Machine
end

