-- ==== Sys2Proof/Machine/Ops.lean ====
section
/-! DEFINITION. The named operations over registers and memory: register updates (spec/00_scope.md R8), the
controllers (spec/60_exceptions.md R303, R304), the CPU bus (spec/20_memory.md R73), the stack (00_scope.md R9,
10_state.md R22), taking an exception and returning from one (60_exceptions.md R261, R269). -/

namespace Sys2Proof.Machine

/-- The outcome of an instruction or of a step. -/
abbrev Out := Host.Outcome State Fault Refusal

/-! ### Register updates (R8) -/

def setA (v : Byte) (s : State) : State := { s with a := v }
def setX (v : Byte) (s : State) : State := { s with x := v }
def setY (v : Byte) (s : State) : State := { s with y := v }
def setSp (v : Byte) (s : State) : State := { s with sp := v }
def setP (v : Byte) (s : State) : State := { s with p := v }
def setPc (v : Addr) (s : State) : State := { s with pc := v }
def setEa (v : Addr) (s : State) : State := { s with ea := v }
def setFetched (v : Byte) (s : State) : State := { s with fetched := v }
def setOpcode (v : Byte) (s : State) : State := { s with opcode := v }
def setRemaining (n : Nat) (s : State) : State := { s with remaining := n }

/-! ### Controllers -/

/-- `CtlStrobe()` (R303): a write of any value to $4016 snapshots both controllers. -/
def ctlStrobe (s : State) : State :=
  { s with
    ctl0 := { s.ctl0 with shift := s.ctl0.buttons }
    ctl1 := { s.ctl1 with shift := s.ctl1.buttons } }

/-- The value `CtlRead(i)` returns (R304): bit 0 of the shift register, bits 7:1 zero (D22). -/
def ctlValue (c : Controller) : Byte := c.shift &&& 1#8

/-- What `CtlRead(i)` does to its controller: shift right, zero fill (R304). -/
def ctlShift (c : Controller) : Controller := { c with shift := c.shift >>> 1 }

/-! ### The CPU bus -/

/-- The rows of R73's table. -/
inductive Region where
  | ram
  | ppuRegs
  | apu
  | controller1
  | controller2
  | testMode
  | expansion
  | prgRom
deriving DecidableEq, Repr

/-- Which row an address falls in, first match wins (R73). -/
def regionOf (a : Addr) : Region :=
  if a < 0x2000#16 then .ram
  else if a < 0x4000#16 then .ppuRegs
  else if a < 0x4016#16 then .apu
  else if a = 0x4016#16 then .controller1
  else if a = 0x4017#16 then .controller2
  else if a < 0x4020#16 then .testMode
  else if a < 0x8000#16 then .expansion
  else .prgRom

/-- `a & 0x07FF` (R63). -/
def ramIndex (a : Addr) : Nat := (a &&& 0x07FF#16).toNat

/-- The value a CPU-bus read returns (R73). -/
def busValue (a : Addr) (s : State) : Byte :=
  match regionOf a with
  | .ram => s.ram.read (ramIndex a)
  | .ppuRegs => ppuRegValue (ppuRegOf a) s
  | .controller1 => ctlValue s.ctl0
  | .controller2 => ctlValue s.ctl1
  | .prgRom => prgRead a s
  | .apu | .testMode | .expansion => 0#8

/-- What a CPU-bus read does to the state (R79). -/
def busReadEffect (a : Addr) (s : State) : State :=
  match regionOf a with
  | .ppuRegs => ppuRegReadEffect (ppuRegOf a) s
  | .controller1 => { s with ctl0 := ctlShift s.ctl0 }
  | .controller2 => { s with ctl1 := ctlShift s.ctl1 }
  | .ram | .apu | .testMode | .expansion | .prgRom => s

/-- `MemRead(addr, 1)` (R9): the byte, and the state after the read. -/
def memRead (a : Addr) (s : State) : Byte × State := (busValue a s, busReadEffect a s)

/-- `MemWrite(addr, 1, v)` (R9, R73). -/
def memWrite (a : Addr) (v : Byte) (s : State) : State :=
  match regionOf a with
  | .ram => { s with ram := s.ram.write (ramIndex a) v }
  | .ppuRegs => ppuRegWrite (ppuRegOf a) v s
  | .controller1 => ctlStrobe s
  | .prgRom => mapPrgWrite a v s
  | .apu | .controller2 | .testMode | .expansion => s

/-- `MemRead16(addr)` (R9): low byte, then high byte at `addr + 1` modulo 2^16 (D13). -/
def memRead16 (a : Addr) (s : State) : Addr × State :=
  let lo := memRead a s
  let hi := memRead (a + 1#16) lo.2
  (addrOf hi.1 lo.1, hi.2)

/-! ### The stack -/

/-- `0x0100 | SP`. -/
def stackAddr (sp : Byte) : Addr := 0x0100#16 ||| sp.setWidth 16

/-- `push(v)` (R9). -/
def push (v : Byte) (s : State) : State :=
  let s1 := memWrite (stackAddr s.sp) v s
  setSp (s1.sp - 1#8) s1

/-- `pull()` (R9). -/
def pull (s : State) : Byte × State :=
  let s1 := setSp (s.sp + 1#8) s
  memRead (stackAddr s1.sp) s1

/-! ### Exceptions -/

/-- Taking an exception, the one sequence of NMI, IRQ and BRK (R261, 43_control_flags.md R224): push the return
address high byte first, push the status byte given, set I, load PC from the vector. -/
def takeException (ret : Addr) (status : Byte) (vector : Addr) (s : State) : State :=
  let s1 := push status (push (loByte ret) (push (hiByte ret) s))
  let r := memRead16 vector (setFlag .i true s1)
  setPc r.1 r.2

/-- The return from one, RTI (43_control_flags.md R223): pull the status with B and U written 0, then PC low,
then PC high. -/
def returnFromException (s : State) : State :=
  let st := pull s
  let lo := pull (setP (pulledStatus st.1) st.2)
  let hi := pull lo.2
  setPc (addrOf hi.1 lo.1) hi.2

/-- The vectors of R264. -/
def nmiVector : Addr := 0xFFFA#16
def resetVector : Addr := 0xFFFC#16
def irqVector : Addr := 0xFFFE#16

/-- `interrupt_entry(vector, n)` (R261): the pushed PC is the next instruction's, the pushed status has B = 0 and
U = 1, and `n` CPU clocks are owed. -/
def interruptEntry (vector : Addr) (n : Nat) (s : State) : State :=
  setRemaining n (takeException s.pc (pushedByInterrupt s.p) vector s)

/-! ### The end of an instruction -/

/-- An executed entry owes its base count and its extra cycles, and is counted (40_engine_addressing.md R132,
R136, log 9). -/
def finish (base extra : Nat) (s : State) : Out :=
  .next { s with remaining := base + extra, instructions := s.instructions + 1#64 }

end Sys2Proof.Machine
end

