-- ==== Sys2Proof/Machine/Operands.lean ====
section
/-! DEFINITION. The addressing modes (spec/40_engine_addressing.md R138 to R152), the operand primitives
`fetch` and `writeback` (R153, R154), the extra cycles (R134, R135), and the shapes of instruction that use them.
A meaning runs after the instruction's bytes are fetched, so PC is the address of the next instruction and the
operand bytes are the instruction's arguments (log 8). -/

namespace Sys2Proof.Machine

/-! ### Effective addresses -/

/-- What a mode routine leaves: the effective address, and whether it crossed a page. -/
structure ModeResult where
  ea : Addr
  crossed : Bool
deriving DecidableEq, Repr

/-- Bits 15:8 of two addresses differ. -/
def pageCrossed (ea base : Addr) : Bool := (ea &&& 0xFF00#16) != (base &&& 0xFF00#16)

/-- `zext_16`. -/
def zeroPage (z : Byte) : Addr := z.setWidth 16

/-- A 16-bit pointer read in the zero page; the high byte comes from `(p + 1) & 0xFF` (R139, D12). Zero-page reads
are RAM reads, free of side effects (20_memory.md R79). -/
def zeroPagePointer (p : Byte) (s : State) : Addr :=
  addrOf (busValue (zeroPage (p + 1#8)) s) (busValue (zeroPage p) s)

/-- IMM (R142): `ea` is the address of the operand byte, the one before the next instruction. -/
def modeImm (s : State) : ModeResult := ⟨s.pc - 1#16, false⟩

/-- ZP0 (R143). -/
def modeZp0 (z : Byte) : ModeResult := ⟨zeroPage z, false⟩

/-- ZPX (R144): the sum wraps in the page. -/
def modeZpx (z : Byte) (s : State) : ModeResult := ⟨zeroPage (z + s.x), false⟩

/-- ZPY (R145). -/
def modeZpy (z : Byte) (s : State) : ModeResult := ⟨zeroPage (z + s.y), false⟩

/-- ABS (R147). -/
def modeAbs (w : Addr) : ModeResult := ⟨w, false⟩

/-- ABX (R148): a 16-bit sum that wraps (D13). -/
def modeAbx (w : Addr) (s : State) : ModeResult :=
  let ea := w + s.x.setWidth 16
  ⟨ea, pageCrossed ea w⟩

/-- ABY (R149). -/
def modeAby (w : Addr) (s : State) : ModeResult :=
  let ea := w + s.y.setWidth 16
  ⟨ea, pageCrossed ea w⟩

/-- IZX (R151): the index is added before the pointer is read. -/
def modeIzx (z : Byte) (s : State) : ModeResult := ⟨zeroPagePointer (z + s.x) s, false⟩

/-- IZY (R152): the index is added to the pointer. -/
def modeIzy (z : Byte) (s : State) : ModeResult :=
  let base := zeroPagePointer z s
  let ea := base + s.y.setWidth 16
  ⟨ea, pageCrossed ea base⟩

/-- REL (R146): the branch target. -/
def branchTarget (d : Int) (s : State) : Addr := s.pc + BitVec.ofInt 16 d

/-- Where IND reads the high byte of its target: the same page when the pointer's low byte is $FF (R150). -/
def indHighAddr (w : Addr) : Addr := if loByte w = 0xFF#8 then w &&& 0xFF00#16 else w + 1#16

/-- IND (R150): the state after the two pointer reads, with the target in `ea`. -/
def modeInd (w : Addr) (s : State) : State :=
  let lo := memRead w s
  let hi := memRead (indHighAddr w) lo.2
  setEa (addrOf hi.1 lo.1) hi.2

/-! ### Extra cycles -/

/-- "both its instruction routine and its addressing-mode routine signal that they want it" (R134). -/
def extraCycle (mode instr : Bool) : Nat := if mode && instr then 1 else 0

/-- `branch_extra(taken, target, next_pc)` (R135). -/
def branchExtra (taken : Bool) (target next : Addr) : Nat :=
  if !taken then 0 else if (target &&& 0xFF00#16) = (next &&& 0xFF00#16) then 1 else 2

/-! ### Operand access -/

/-- `fetch()` of a memory operand (R153): one bus read of `ea` into `fetched`. -/
def fetchOperand (m : ModeResult) (s : State) : Byte × State :=
  let r := memRead m.ea (setEa m.ea s)
  (r.1, setFetched r.1 r.2)

/-! ### Shapes of instruction -/

/-- An instruction that reads its memory operand: `wants` is what its routine returns to R134. -/
def readInstr (base : Nat) (wants : Bool) (m : ModeResult) (op : Byte → State → State) (s : State) : Out :=
  let r := fetchOperand m s
  finish base (extraCycle m.crossed wants) (op r.1 r.2)

/-- An instruction with an immediate operand. Its byte has been read by the fetch (log 8). -/
def readImm (base : Nat) (n : Byte) (op : Byte → State → State) (s : State) : Out :=
  finish base 0 (op n (setFetched n (setEa (modeImm s).ea s)))

/-- A store: one write, no operand read, never the extra cycle (R134, R153). -/
def storeInstr (base : Nat) (m : ModeResult) (v : Byte) (s : State) : Out :=
  finish base (extraCycle m.crossed false) (memWrite m.ea v (setEa m.ea s))

/-- A read-modify-write: one read, one write of the same address, then what the instruction does with the
result (20_memory.md R62, D3). -/
def rmwInstr (base : Nat) (m : ModeResult) (f : Byte → State → Byte × State) (after : Byte → State → State)
    (s : State) : Out :=
  let r := fetchOperand m s
  let w := f r.1 r.2
  finish base (extraCycle m.crossed false) (after w.1 (memWrite m.ea w.1 w.2))

/-- The accumulator form (R141, R153, R154): `fetch()` returns A and `writeback` writes A. -/
def accInstr (base : Nat) (f : Byte → State → Byte × State) (s : State) : Out :=
  let w := f s.a (setFetched s.a s)
  finish base 0 (setZN w.1 (setA w.1 w.2))

/-- A no-operation with an operand: the mode routine runs, `ea` is not read (44_unofficial.md R251). -/
def nopInstr (base : Nat) (m : ModeResult) (s : State) : Out :=
  finish base (extraCycle m.crossed true) (setEa m.ea s)

/-- `BRANCH(cond)` (43_control_flags.md R210) after REL. -/
def branchInstr (cond : Bool) (d : Int) (s : State) : Out :=
  let target := branchTarget d s
  let s1 := setEa target s
  finish 2 (branchExtra cond target s.pc) (if cond then setPc target s1 else s1)

end Sys2Proof.Machine
end

