-- ==== Sys2Proof/Machine/Arith.lean ====
section
/-! DEFINITION. Add and subtract (spec/42_arith_logic.md R180, R183, R184, R206; spec/44_unofficial.md R249). -/

namespace Sys2Proof.Machine

/-- SBC "inverts M and reuses ADC": `ADD(m ^ 0xFF)` (R184). -/
def subtractFromA (m : Byte) (s : State) : State := addToA (m ^^^ 0xFF#8) s

/-- $61 ADC (z,X) (R183). -/
def execAdcIzx (z : Byte) (s : State) : Out := readInstr 6 true (modeIzx z s) addToA s

/-- $65 ADC z (R183). -/
def execAdcZp0 (z : Byte) (s : State) : Out := readInstr 3 true (modeZp0 z) addToA s

/-- $69 ADC #n (R183). -/
def execAdcImm (n : Byte) (s : State) : Out := readImm 2 n addToA s

/-- $6D ADC w (R183). -/
def execAdcAbs (w : Addr) (s : State) : Out := readInstr 4 true (modeAbs w) addToA s

/-- $71 ADC (z),Y (R183). -/
def execAdcIzy (z : Byte) (s : State) : Out := readInstr 5 true (modeIzy z s) addToA s

/-- $75 ADC z,X (R183). -/
def execAdcZpx (z : Byte) (s : State) : Out := readInstr 4 true (modeZpx z s) addToA s

/-- $79 ADC w,Y (R183). -/
def execAdcAby (w : Addr) (s : State) : Out := readInstr 4 true (modeAby w s) addToA s

/-- $7D ADC w,X (R183). -/
def execAdcAbx (w : Addr) (s : State) : Out := readInstr 4 true (modeAbx w s) addToA s

/-- $E1 SBC (z,X) (R184). -/
def execSbcIzx (z : Byte) (s : State) : Out := readInstr 6 true (modeIzx z s) subtractFromA s

/-- $E5 SBC z (R184). -/
def execSbcZp0 (z : Byte) (s : State) : Out := readInstr 3 true (modeZp0 z) subtractFromA s

/-- $E9 SBC #n (R184). -/
def execSbcImm (n : Byte) (s : State) : Out := readImm 2 n subtractFromA s

/-- $ED SBC w (R184). -/
def execSbcAbs (w : Addr) (s : State) : Out := readInstr 4 true (modeAbs w) subtractFromA s

/-- $F1 SBC (z),Y (R184). -/
def execSbcIzy (z : Byte) (s : State) : Out := readInstr 5 true (modeIzy z s) subtractFromA s

/-- $F5 SBC z,X (R184). -/
def execSbcZpx (z : Byte) (s : State) : Out := readInstr 4 true (modeZpx z s) subtractFromA s

/-- $F9 SBC w,Y (R184). -/
def execSbcAby (w : Addr) (s : State) : Out := readInstr 4 true (modeAby w s) subtractFromA s

/-- $FD SBC w,X (R184). -/
def execSbcAbx (w : Addr) (s : State) : Out := readInstr 4 true (modeAbx w s) subtractFromA s

/-- $EB SBC #n (R249). -/
def execSbcImmEb (n : Byte) (s : State) : Out := readImm 2 n subtractFromA s

end Sys2Proof.Machine
end

