-- ==== Sys2Proof/Machine/Control.lean ====
section
/-! DEFINITION. Branches, jumps, subroutines, RTI and BRK (spec/43_control_flags.md R210 to R224). -/

namespace Sys2Proof.Machine

/-- $90 BCC d (R211). -/
def execBcc (d : Int) (s : State) : Out := branchInstr (!s.flag .c) d s

/-- $B0 BCS d (R212). -/
def execBcs (d : Int) (s : State) : Out := branchInstr (s.flag .c) d s

/-- $F0 BEQ d (R213). -/
def execBeq (d : Int) (s : State) : Out := branchInstr (s.flag .z) d s

/-- $30 BMI d (R214). -/
def execBmi (d : Int) (s : State) : Out := branchInstr (s.flag .n) d s

/-- $D0 BNE d (R215). -/
def execBne (d : Int) (s : State) : Out := branchInstr (!s.flag .z) d s

/-- $10 BPL d (R216). -/
def execBpl (d : Int) (s : State) : Out := branchInstr (!s.flag .n) d s

/-- $50 BVC d (R217). -/
def execBvc (d : Int) (s : State) : Out := branchInstr (!s.flag .v) d s

/-- $70 BVS d (R218). -/
def execBvs (d : Int) (s : State) : Out := branchInstr (s.flag .v) d s

/-- $4C JMP w (R219). -/
def execJmpAbs (w : Addr) (s : State) : Out := finish 3 0 (setPc w (setEa w s))

/-- $6C JMP (w) (R220). -/
def execJmpInd (w : Addr) (s : State) : Out := 
  let s1 := modeInd w s
  finish 5 0 (setPc s1.ea s1)

/-- `r <- PC - 1; push(r[15:8]); push(r[7:0]); PC <- ea` after ABS (R221). -/
def jumpToSubroutine (w : Addr) (s : State) : State :=
  let r := s.pc - 1#16
  setPc w (push (loByte r) (push (hiByte r) (setEa w s)))

/-- $20 JSR w (R221). -/
def execJsr (w : Addr) (s : State) : Out := finish 6 0 (jumpToSubroutine w s)

/-- `lo <- pull(); hi <- pull(); PC <- ((hi << 8) | lo) + 1` (R222). -/
def returnFromSubroutine (s : State) : State :=
  let lo := pull s
  let hi := pull lo.2
  setPc (addrOf hi.1 lo.1 + 1#16) hi.2

/-- $60 RTS (R222). -/
def execRts (s : State) : Out := finish 6 0 (returnFromSubroutine s)

/-- $40 RTI (R223). -/
def execRti (s : State) : Out := finish 6 0 (returnFromException s)

/-- $00 BRK (R224). -/
def execBrk (s : State) : Out := finish 7 0 (takeException (s.pc + 1#16) (pushedByInstruction s.p) irqVector s)

end Sys2Proof.Machine
end

