-- ==== Sys2Proof/Machine/FlagOps.lean ====
section
/-! DEFINITION. The flag instructions (spec/43_control_flags.md R225 to R231). -/

namespace Sys2Proof.Machine

/-- $18 CLC (R225). -/
def execClc (s : State) : Out := finish 2 0 (setFlag .c false s)

/-- $D8 CLD (R226). -/
def execCld (s : State) : Out := finish 2 0 (setFlag .d false s)

/-- $58 CLI (R227). -/
def execCli (s : State) : Out := finish 2 0 (setFlag .i false s)

/-- $B8 CLV (R228). -/
def execClv (s : State) : Out := finish 2 0 (setFlag .v false s)

/-- $38 SEC (R229). -/
def execSec (s : State) : Out := finish 2 0 (setFlag .c true s)

/-- $F8 SED (R230). -/
def execSed (s : State) : Out := finish 2 0 (setFlag .d true s)

/-- $78 SEI (R231). -/
def execSei (s : State) : Out := finish 2 0 (setFlag .i true s)

end Sys2Proof.Machine
end

