-- ==== Sys2Proof/Machine/Illegal.lean ====
section
/-! DEFINITION. The illegal entry "XXX" (spec/44_unofficial.md R252, R253; spec/60_exceptions.md R266). -/

namespace Sys2Proof.Machine

/-- `illegal(op_addr, opcode)`: record IllegalOpcode; under `halt` the system halts and nothing else changes, under
`nop` the byte is a one-byte, two-cycle no-operation (R252, R253). PC is one past the opcode byte. -/
def illegalInstr (op : Byte) (s : State) : Out :=
  let s1 := raiseIllegalOpcode (s.pc - 1#16) op s
  match s.params.illegalOpcode with
  | .halt => .next { s1 with halted := true }
  | .nop => finish 2 0 s1

/-- $02 XXX (R252). -/
def execXxx02 (s : State) : Out := illegalInstr 0x02 s

/-- $0B XXX (R252). -/
def execXxx0b (s : State) : Out := illegalInstr 0x0B s

/-- $12 XXX (R252). -/
def execXxx12 (s : State) : Out := illegalInstr 0x12 s

/-- $22 XXX (R252). -/
def execXxx22 (s : State) : Out := illegalInstr 0x22 s

/-- $2B XXX (R252). -/
def execXxx2b (s : State) : Out := illegalInstr 0x2B s

/-- $32 XXX (R252). -/
def execXxx32 (s : State) : Out := illegalInstr 0x32 s

/-- $42 XXX (R252). -/
def execXxx42 (s : State) : Out := illegalInstr 0x42 s

/-- $4B XXX (R252). -/
def execXxx4b (s : State) : Out := illegalInstr 0x4B s

/-- $52 XXX (R252). -/
def execXxx52 (s : State) : Out := illegalInstr 0x52 s

/-- $62 XXX (R252). -/
def execXxx62 (s : State) : Out := illegalInstr 0x62 s

/-- $6B XXX (R252). -/
def execXxx6b (s : State) : Out := illegalInstr 0x6B s

/-- $72 XXX (R252). -/
def execXxx72 (s : State) : Out := illegalInstr 0x72 s

/-- $8B XXX (R252). -/
def execXxx8b (s : State) : Out := illegalInstr 0x8B s

/-- $92 XXX (R252). -/
def execXxx92 (s : State) : Out := illegalInstr 0x92 s

/-- $93 XXX (R252). -/
def execXxx93 (s : State) : Out := illegalInstr 0x93 s

/-- $9B XXX (R252). -/
def execXxx9b (s : State) : Out := illegalInstr 0x9B s

/-- $9C XXX (R252). -/
def execXxx9c (s : State) : Out := illegalInstr 0x9C s

/-- $9E XXX (R252). -/
def execXxx9e (s : State) : Out := illegalInstr 0x9E s

/-- $9F XXX (R252). -/
def execXxx9f (s : State) : Out := illegalInstr 0x9F s

/-- $AB XXX (R252). -/
def execXxxab (s : State) : Out := illegalInstr 0xAB s

/-- $B2 XXX (R252). -/
def execXxxb2 (s : State) : Out := illegalInstr 0xB2 s

/-- $BB XXX (R252). -/
def execXxxbb (s : State) : Out := illegalInstr 0xBB s

/-- $CB XXX (R252). -/
def execXxxcb (s : State) : Out := illegalInstr 0xCB s

/-- $D2 XXX (R252). -/
def execXxxd2 (s : State) : Out := illegalInstr 0xD2 s

/-- $F2 XXX (R252). -/
def execXxxf2 (s : State) : Out := illegalInstr 0xF2 s

end Sys2Proof.Machine
end

