-- ==== Sys2Proof/Machine/IncDec.lean ====
section
/-! DEFINITION. Increment and decrement (spec/42_arith_logic.md R192 to R197). -/

namespace Sys2Proof.Machine

/-- The result of INC, which writes no flag before the write-back (R192). -/
def increment (v : Byte) (s : State) : Byte × State := (v + 1#8, s)

/-- The result of DEC (R193). -/
def decrement (v : Byte) (s : State) : Byte × State := (v - 1#8, s)

/-- $E6 INC z (R192). -/
def execIncZp0 (z : Byte) (s : State) : Out := rmwInstr 5 (modeZp0 z) increment setZN s

/-- $EE INC w (R192). -/
def execIncAbs (w : Addr) (s : State) : Out := rmwInstr 6 (modeAbs w) increment setZN s

/-- $F6 INC z,X (R192). -/
def execIncZpx (z : Byte) (s : State) : Out := rmwInstr 6 (modeZpx z s) increment setZN s

/-- $FE INC w,X (R192). -/
def execIncAbx (w : Addr) (s : State) : Out := rmwInstr 7 (modeAbx w s) increment setZN s

/-- $C6 DEC z (R193). -/
def execDecZp0 (z : Byte) (s : State) : Out := rmwInstr 5 (modeZp0 z) decrement setZN s

/-- $CE DEC w (R193). -/
def execDecAbs (w : Addr) (s : State) : Out := rmwInstr 6 (modeAbs w) decrement setZN s

/-- $D6 DEC z,X (R193). -/
def execDecZpx (z : Byte) (s : State) : Out := rmwInstr 6 (modeZpx z s) decrement setZN s

/-- $DE DEC w,X (R193). -/
def execDecAbx (w : Addr) (s : State) : Out := rmwInstr 7 (modeAbx w s) decrement setZN s

/-- $E8 INX (R194). -/
def execInx (s : State) : Out := finish 2 0 (setZN (s.x + 1#8) (setX (s.x + 1#8) s))

/-- $C8 INY (R195). -/
def execIny (s : State) : Out := finish 2 0 (setZN (s.y + 1#8) (setY (s.y + 1#8) s))

/-- $CA DEX (R196). -/
def execDex (s : State) : Out := finish 2 0 (setZN (s.x - 1#8) (setX (s.x - 1#8) s))

/-- $88 DEY (R197). -/
def execDey (s : State) : Out := finish 2 0 (setZN (s.y - 1#8) (setY (s.y - 1#8) s))

end Sys2Proof.Machine
end

