-- ==== Sys2Proof/Machine/LoadStore.lean ====
section
/-! DEFINITION. Loads and stores (spec/41_load_store_transfer.md R160 to R165). -/

namespace Sys2Proof.Machine

/-- `A <- v; setZN(A)` (R160). -/
def loadA (v : Byte) (s : State) : State := setZN v (setA v s)

/-- `X <- v; setZN(X)` (R161). -/
def loadX (v : Byte) (s : State) : State := setZN v (setX v s)

/-- `Y <- v; setZN(Y)` (R162). -/
def loadY (v : Byte) (s : State) : State := setZN v (setY v s)

/-- $A1 LDA (z,X) (R160). -/
def execLdaIzx (z : Byte) (s : State) : Out := readInstr 6 true (modeIzx z s) loadA s

/-- $A5 LDA z (R160). -/
def execLdaZp0 (z : Byte) (s : State) : Out := readInstr 3 true (modeZp0 z) loadA s

/-- $A9 LDA #n (R160). -/
def execLdaImm (n : Byte) (s : State) : Out := readImm 2 n loadA s

/-- $AD LDA w (R160). -/
def execLdaAbs (w : Addr) (s : State) : Out := readInstr 4 true (modeAbs w) loadA s

/-- $B1 LDA (z),Y (R160). -/
def execLdaIzy (z : Byte) (s : State) : Out := readInstr 5 true (modeIzy z s) loadA s

/-- $B5 LDA z,X (R160). -/
def execLdaZpx (z : Byte) (s : State) : Out := readInstr 4 true (modeZpx z s) loadA s

/-- $B9 LDA w,Y (R160). -/
def execLdaAby (w : Addr) (s : State) : Out := readInstr 4 true (modeAby w s) loadA s

/-- $BD LDA w,X (R160). -/
def execLdaAbx (w : Addr) (s : State) : Out := readInstr 4 true (modeAbx w s) loadA s

/-- $A2 LDX #n (R161). -/
def execLdxImm (n : Byte) (s : State) : Out := readImm 2 n loadX s

/-- $A6 LDX z (R161). -/
def execLdxZp0 (z : Byte) (s : State) : Out := readInstr 3 true (modeZp0 z) loadX s

/-- $AE LDX w (R161). -/
def execLdxAbs (w : Addr) (s : State) : Out := readInstr 4 true (modeAbs w) loadX s

/-- $B6 LDX z,Y (R161). -/
def execLdxZpy (z : Byte) (s : State) : Out := readInstr 4 true (modeZpy z s) loadX s

/-- $BE LDX w,Y (R161). -/
def execLdxAby (w : Addr) (s : State) : Out := readInstr 4 true (modeAby w s) loadX s

/-- $A0 LDY #n (R162). -/
def execLdyImm (n : Byte) (s : State) : Out := readImm 2 n loadY s

/-- $A4 LDY z (R162). -/
def execLdyZp0 (z : Byte) (s : State) : Out := readInstr 3 true (modeZp0 z) loadY s

/-- $AC LDY w (R162). -/
def execLdyAbs (w : Addr) (s : State) : Out := readInstr 4 true (modeAbs w) loadY s

/-- $B4 LDY z,X (R162). -/
def execLdyZpx (z : Byte) (s : State) : Out := readInstr 4 true (modeZpx z s) loadY s

/-- $BC LDY w,X (R162). -/
def execLdyAbx (w : Addr) (s : State) : Out := readInstr 4 true (modeAbx w s) loadY s

/-- $81 STA (z,X) (R163). -/
def execStaIzx (z : Byte) (s : State) : Out := storeInstr 6 (modeIzx z s) s.a s

/-- $85 STA z (R163). -/
def execStaZp0 (z : Byte) (s : State) : Out := storeInstr 3 (modeZp0 z) s.a s

/-- $8D STA w (R163). -/
def execStaAbs (w : Addr) (s : State) : Out := storeInstr 4 (modeAbs w) s.a s

/-- $91 STA (z),Y (R163). -/
def execStaIzy (z : Byte) (s : State) : Out := storeInstr 6 (modeIzy z s) s.a s

/-- $95 STA z,X (R163). -/
def execStaZpx (z : Byte) (s : State) : Out := storeInstr 4 (modeZpx z s) s.a s

/-- $99 STA w,Y (R163). -/
def execStaAby (w : Addr) (s : State) : Out := storeInstr 5 (modeAby w s) s.a s

/-- $9D STA w,X (R163). -/
def execStaAbx (w : Addr) (s : State) : Out := storeInstr 5 (modeAbx w s) s.a s

/-- $86 STX z (R164). -/
def execStxZp0 (z : Byte) (s : State) : Out := storeInstr 3 (modeZp0 z) s.x s

/-- $8E STX w (R164). -/
def execStxAbs (w : Addr) (s : State) : Out := storeInstr 4 (modeAbs w) s.x s

/-- $96 STX z,Y (R164). -/
def execStxZpy (z : Byte) (s : State) : Out := storeInstr 4 (modeZpy z s) s.x s

/-- $84 STY z (R165). -/
def execStyZp0 (z : Byte) (s : State) : Out := storeInstr 3 (modeZp0 z) s.y s

/-- $8C STY w (R165). -/
def execStyAbs (w : Addr) (s : State) : Out := storeInstr 4 (modeAbs w) s.y s

/-- $94 STY z,X (R165). -/
def execStyZpx (z : Byte) (s : State) : Out := storeInstr 4 (modeZpx z s) s.y s

end Sys2Proof.Machine
end

