-- ==== Sys2Proof/Machine/Logic.lean ====
section
/-! DEFINITION. Logic, BIT and the comparisons (spec/42_arith_logic.md R181, R185 to R191). -/

namespace Sys2Proof.Machine

/-- `A <- A & m; setZN(A)` (R185). -/
def andA (m : Byte) (s : State) : State := setZN (s.a &&& m) (setA (s.a &&& m) s)

/-- `A <- A | m; setZN(A)` (R186). -/
def orA (m : Byte) (s : State) : State := setZN (s.a ||| m) (setA (s.a ||| m) s)

/-- `A <- A ^ m; setZN(A)` (R187). -/
def xorA (m : Byte) (s : State) : State := setZN (s.a ^^^ m) (setA (s.a ^^^ m) s)

/-- `COMPARE(A, m)` (R189). -/
def compareA (m : Byte) (s : State) : State := compareBytes s.a m s

/-- `COMPARE(X, m)` (R190). -/
def compareX (m : Byte) (s : State) : State := compareBytes s.x m s

/-- `COMPARE(Y, m)` (R191). -/
def compareY (m : Byte) (s : State) : State := compareBytes s.y m s

/-- $21 AND (z,X) (R185). -/
def execAndIzx (z : Byte) (s : State) : Out := readInstr 6 true (modeIzx z s) andA s

/-- $25 AND z (R185). -/
def execAndZp0 (z : Byte) (s : State) : Out := readInstr 3 true (modeZp0 z) andA s

/-- $29 AND #n (R185). -/
def execAndImm (n : Byte) (s : State) : Out := readImm 2 n andA s

/-- $2D AND w (R185). -/
def execAndAbs (w : Addr) (s : State) : Out := readInstr 4 true (modeAbs w) andA s

/-- $31 AND (z),Y (R185). -/
def execAndIzy (z : Byte) (s : State) : Out := readInstr 5 true (modeIzy z s) andA s

/-- $35 AND z,X (R185). -/
def execAndZpx (z : Byte) (s : State) : Out := readInstr 4 true (modeZpx z s) andA s

/-- $39 AND w,Y (R185). -/
def execAndAby (w : Addr) (s : State) : Out := readInstr 4 true (modeAby w s) andA s

/-- $3D AND w,X (R185). -/
def execAndAbx (w : Addr) (s : State) : Out := readInstr 4 true (modeAbx w s) andA s

/-- $01 ORA (z,X) (R186). -/
def execOraIzx (z : Byte) (s : State) : Out := readInstr 6 true (modeIzx z s) orA s

/-- $05 ORA z (R186). -/
def execOraZp0 (z : Byte) (s : State) : Out := readInstr 3 true (modeZp0 z) orA s

/-- $09 ORA #n (R186). -/
def execOraImm (n : Byte) (s : State) : Out := readImm 2 n orA s

/-- $0D ORA w (R186). -/
def execOraAbs (w : Addr) (s : State) : Out := readInstr 4 true (modeAbs w) orA s

/-- $11 ORA (z),Y (R186). -/
def execOraIzy (z : Byte) (s : State) : Out := readInstr 5 true (modeIzy z s) orA s

/-- $15 ORA z,X (R186). -/
def execOraZpx (z : Byte) (s : State) : Out := readInstr 4 true (modeZpx z s) orA s

/-- $19 ORA w,Y (R186). -/
def execOraAby (w : Addr) (s : State) : Out := readInstr 4 true (modeAby w s) orA s

/-- $1D ORA w,X (R186). -/
def execOraAbx (w : Addr) (s : State) : Out := readInstr 4 true (modeAbx w s) orA s

/-- $41 EOR (z,X) (R187). -/
def execEorIzx (z : Byte) (s : State) : Out := readInstr 6 true (modeIzx z s) xorA s

/-- $45 EOR z (R187). -/
def execEorZp0 (z : Byte) (s : State) : Out := readInstr 3 true (modeZp0 z) xorA s

/-- $49 EOR #n (R187). -/
def execEorImm (n : Byte) (s : State) : Out := readImm 2 n xorA s

/-- $4D EOR w (R187). -/
def execEorAbs (w : Addr) (s : State) : Out := readInstr 4 true (modeAbs w) xorA s

/-- $51 EOR (z),Y (R187). -/
def execEorIzy (z : Byte) (s : State) : Out := readInstr 5 true (modeIzy z s) xorA s

/-- $55 EOR z,X (R187). -/
def execEorZpx (z : Byte) (s : State) : Out := readInstr 4 true (modeZpx z s) xorA s

/-- $59 EOR w,Y (R187). -/
def execEorAby (w : Addr) (s : State) : Out := readInstr 4 true (modeAby w s) xorA s

/-- $5D EOR w,X (R187). -/
def execEorAbx (w : Addr) (s : State) : Out := readInstr 4 true (modeAbx w s) xorA s

/-- $24 BIT z (R188). -/
def execBitZp0 (z : Byte) (s : State) : Out := readInstr 3 false (modeZp0 z) bitTest s

/-- $2C BIT w (R188). -/
def execBitAbs (w : Addr) (s : State) : Out := readInstr 4 false (modeAbs w) bitTest s

/-- $C1 CMP (z,X) (R189). -/
def execCmpIzx (z : Byte) (s : State) : Out := readInstr 6 true (modeIzx z s) compareA s

/-- $C5 CMP z (R189). -/
def execCmpZp0 (z : Byte) (s : State) : Out := readInstr 3 true (modeZp0 z) compareA s

/-- $C9 CMP #n (R189). -/
def execCmpImm (n : Byte) (s : State) : Out := readImm 2 n compareA s

/-- $CD CMP w (R189). -/
def execCmpAbs (w : Addr) (s : State) : Out := readInstr 4 true (modeAbs w) compareA s

/-- $D1 CMP (z),Y (R189). -/
def execCmpIzy (z : Byte) (s : State) : Out := readInstr 5 true (modeIzy z s) compareA s

/-- $D5 CMP z,X (R189). -/
def execCmpZpx (z : Byte) (s : State) : Out := readInstr 4 true (modeZpx z s) compareA s

/-- $D9 CMP w,Y (R189). -/
def execCmpAby (w : Addr) (s : State) : Out := readInstr 4 true (modeAby w s) compareA s

/-- $DD CMP w,X (R189). -/
def execCmpAbx (w : Addr) (s : State) : Out := readInstr 4 true (modeAbx w s) compareA s

/-- $E0 CPX #n (R190). -/
def execCpxImm (n : Byte) (s : State) : Out := readImm 2 n compareX s

/-- $E4 CPX z (R190). -/
def execCpxZp0 (z : Byte) (s : State) : Out := readInstr 3 false (modeZp0 z) compareX s

/-- $EC CPX w (R190). -/
def execCpxAbs (w : Addr) (s : State) : Out := readInstr 4 false (modeAbs w) compareX s

/-- $C0 CPY #n (R191). -/
def execCpyImm (n : Byte) (s : State) : Out := readImm 2 n compareY s

/-- $C4 CPY z (R191). -/
def execCpyZp0 (z : Byte) (s : State) : Out := readInstr 3 false (modeZp0 z) compareY s

/-- $CC CPY w (R191). -/
def execCpyAbs (w : Addr) (s : State) : Out := readInstr 4 false (modeAbs w) compareY s

end Sys2Proof.Machine
end

