-- ==== Sys2Proof/Machine/Nop.lean ====
section
/-! DEFINITION. The no-operations (spec/43_control_flags.md R232, spec/44_unofficial.md R250, R251). -/

namespace Sys2Proof.Machine

/-- $04 NOP z (R251). -/
def execNopZp004 (z : Byte) (s : State) : Out := nopInstr 3 (modeZp0 z) s

/-- $0C NOP w (R251). -/
def execNopAbs0c (w : Addr) (s : State) : Out := nopInstr 4 (modeAbs w) s

/-- $14 NOP z,X (R251). -/
def execNopZpx14 (z : Byte) (s : State) : Out := nopInstr 4 (modeZpx z s) s

/-- $1A NOP (R250). -/
def execNopImp1a (s : State) : Out := finish 2 (extraCycle false true) s

/-- $1C NOP w,X (R251). -/
def execNopAbx1c (w : Addr) (s : State) : Out := nopInstr 4 (modeAbx w s) s

/-- $34 NOP z,X (R251). -/
def execNopZpx34 (z : Byte) (s : State) : Out := nopInstr 4 (modeZpx z s) s

/-- $3A NOP (R250). -/
def execNopImp3a (s : State) : Out := finish 2 (extraCycle false true) s

/-- $3C NOP w,X (R251). -/
def execNopAbx3c (w : Addr) (s : State) : Out := nopInstr 4 (modeAbx w s) s

/-- $44 NOP z (R251). -/
def execNopZp044 (z : Byte) (s : State) : Out := nopInstr 3 (modeZp0 z) s

/-- $54 NOP z,X (R251). -/
def execNopZpx54 (z : Byte) (s : State) : Out := nopInstr 4 (modeZpx z s) s

/-- $5A NOP (R250). -/
def execNopImp5a (s : State) : Out := finish 2 (extraCycle false true) s

/-- $5C NOP w,X (R251). -/
def execNopAbx5c (w : Addr) (s : State) : Out := nopInstr 4 (modeAbx w s) s

/-- $64 NOP z (R251). -/
def execNopZp064 (z : Byte) (s : State) : Out := nopInstr 3 (modeZp0 z) s

/-- $74 NOP z,X (R251). -/
def execNopZpx74 (z : Byte) (s : State) : Out := nopInstr 4 (modeZpx z s) s

/-- $7A NOP (R250). -/
def execNopImp7a (s : State) : Out := finish 2 (extraCycle false true) s

/-- $7C NOP w,X (R251). -/
def execNopAbx7c (w : Addr) (s : State) : Out := nopInstr 4 (modeAbx w s) s

/-- $80 NOP #n (R251). -/
def execNopImm80 (_n : Byte) (s : State) : Out := nopInstr 2 (modeImm s) s

/-- $82 NOP #n (R251). -/
def execNopImm82 (_n : Byte) (s : State) : Out := nopInstr 2 (modeImm s) s

/-- $89 NOP #n (R251). -/
def execNopImm89 (_n : Byte) (s : State) : Out := nopInstr 2 (modeImm s) s

/-- $C2 NOP #n (R251). -/
def execNopImmc2 (_n : Byte) (s : State) : Out := nopInstr 2 (modeImm s) s

/-- $D4 NOP z,X (R251). -/
def execNopZpxd4 (z : Byte) (s : State) : Out := nopInstr 4 (modeZpx z s) s

/-- $DA NOP (R250). -/
def execNopImpda (s : State) : Out := finish 2 (extraCycle false true) s

/-- $DC NOP w,X (R251). -/
def execNopAbxdc (w : Addr) (s : State) : Out := nopInstr 4 (modeAbx w s) s

/-- $E2 NOP #n (R251). -/
def execNopImme2 (_n : Byte) (s : State) : Out := nopInstr 2 (modeImm s) s

/-- $EA NOP (R232). -/
def execNop (s : State) : Out := finish 2 0 s

/-- $F4 NOP z,X (R251). -/
def execNopZpxf4 (z : Byte) (s : State) : Out := nopInstr 4 (modeZpx z s) s

/-- $FA NOP (R250). -/
def execNopImpfa (s : State) : Out := finish 2 (extraCycle false true) s

/-- $FC NOP w,X (R251). -/
def execNopAbxfc (w : Addr) (s : State) : Out := nopInstr 4 (modeAbx w s) s

end Sys2Proof.Machine
end

