-- ==== Sys2Proof/Machine/Shift.lean ====
section
/-! DEFINITION. Shifts and rotates, memory and accumulator forms (spec/42_arith_logic.md R182, R198 to R205). -/

namespace Sys2Proof.Machine

/-- $06 ASL z (R198). -/
def execAslZp0 (z : Byte) (s : State) : Out := rmwInstr 5 (modeZp0 z) shiftLeft setZN s

/-- $0A ASL A (R199). -/
def execAslAcc (s : State) : Out := accInstr 2 shiftLeft s

/-- $0E ASL w (R198). -/
def execAslAbs (w : Addr) (s : State) : Out := rmwInstr 6 (modeAbs w) shiftLeft setZN s

/-- $16 ASL z,X (R198). -/
def execAslZpx (z : Byte) (s : State) : Out := rmwInstr 6 (modeZpx z s) shiftLeft setZN s

/-- $1E ASL w,X (R198). -/
def execAslAbx (w : Addr) (s : State) : Out := rmwInstr 7 (modeAbx w s) shiftLeft setZN s

/-- $46 LSR z (R200). -/
def execLsrZp0 (z : Byte) (s : State) : Out := rmwInstr 5 (modeZp0 z) shiftRight setZN s

/-- $4A LSR A (R201). -/
def execLsrAcc (s : State) : Out := accInstr 2 shiftRight s

/-- $4E LSR w (R200). -/
def execLsrAbs (w : Addr) (s : State) : Out := rmwInstr 6 (modeAbs w) shiftRight setZN s

/-- $56 LSR z,X (R200). -/
def execLsrZpx (z : Byte) (s : State) : Out := rmwInstr 6 (modeZpx z s) shiftRight setZN s

/-- $5E LSR w,X (R200). -/
def execLsrAbx (w : Addr) (s : State) : Out := rmwInstr 7 (modeAbx w s) shiftRight setZN s

/-- $26 ROL z (R202). -/
def execRolZp0 (z : Byte) (s : State) : Out := rmwInstr 5 (modeZp0 z) rotateLeft setZN s

/-- $2A ROL A (R203). -/
def execRolAcc (s : State) : Out := accInstr 2 rotateLeft s

/-- $2E ROL w (R202). -/
def execRolAbs (w : Addr) (s : State) : Out := rmwInstr 6 (modeAbs w) rotateLeft setZN s

/-- $36 ROL z,X (R202). -/
def execRolZpx (z : Byte) (s : State) : Out := rmwInstr 6 (modeZpx z s) rotateLeft setZN s

/-- $3E ROL w,X (R202). -/
def execRolAbx (w : Addr) (s : State) : Out := rmwInstr 7 (modeAbx w s) rotateLeft setZN s

/-- $66 ROR z (R204). -/
def execRorZp0 (z : Byte) (s : State) : Out := rmwInstr 5 (modeZp0 z) rotateRight setZN s

/-- $6A ROR A (R205). -/
def execRorAcc (s : State) : Out := accInstr 2 rotateRight s

/-- $6E ROR w (R204). -/
def execRorAbs (w : Addr) (s : State) : Out := rmwInstr 6 (modeAbs w) rotateRight setZN s

/-- $76 ROR z,X (R204). -/
def execRorZpx (z : Byte) (s : State) : Out := rmwInstr 6 (modeZpx z s) rotateRight setZN s

/-- $7E ROR w,X (R204). -/
def execRorAbx (w : Addr) (s : State) : Out := rmwInstr 7 (modeAbx w s) rotateRight setZN s

end Sys2Proof.Machine
end

