-- ==== Sys2Proof/Machine/Transfer.lean ====
section
/-! DEFINITION. Register transfers and stack instructions (spec/41_load_store_transfer.md R166 to R175). -/

namespace Sys2Proof.Machine

/-- $AA TAX (R166). -/
def execTax (s : State) : Out := finish 2 0 (setZN s.a (setX s.a s))

/-- $A8 TAY (R167). -/
def execTay (s : State) : Out := finish 2 0 (setZN s.a (setY s.a s))

/-- $BA TSX (R168). -/
def execTsx (s : State) : Out := finish 2 0 (setZN s.sp (setX s.sp s))

/-- $8A TXA (R169). -/
def execTxa (s : State) : Out := finish 2 0 (setZN s.x (setA s.x s))

/-- $9A TXS (R170). -/
def execTxs (s : State) : Out := finish 2 0 (setSp s.x s)

/-- $98 TYA (R171). -/
def execTya (s : State) : Out := finish 2 0 (setZN s.y (setA s.y s))

/-- $48 PHA (R172). -/
def execPha (s : State) : Out := finish 3 0 (push s.a s)

/-- $08 PHP (R173). -/
def execPhp (s : State) : Out := finish 3 0 (push (pushedByInstruction s.p) s)

/-- $68 PLA (R174). -/
def execPla (s : State) : Out := 
  let r := pull s
  finish 4 0 (setZN r.1 (setA r.1 r.2))

/-- $28 PLP (R175). -/
def execPlp (s : State) : Out := 
  let r := pull s
  finish 4 0 (setP (pulledStatus r.1) r.2)

end Sys2Proof.Machine
end

