-- ==== Sys2Proof/Machine/Unofficial.lean ====
section
/-! DEFINITION. The unofficial combined instructions (spec/44_unofficial.md R241 to R248). -/

namespace Sys2Proof.Machine

/-- `A <- v; X <- v; setZN(v)` (R241). -/
def loadAX (v : Byte) (s : State) : State := setZN v (setX v (setA v s))

/-- DCP after the write-back: `COMPARE(A, r)` (R243). -/
def thenCompare (r : Byte) (s : State) : State := compareBytes s.a r s

/-- ISC after the write-back: `ADD(r ^ 0xFF)` (R244). -/
def thenSubtract (r : Byte) (s : State) : State := addToA (r ^^^ 0xFF#8) s

/-- SLO after the write-back: `A <- A | r; setZN(A)` (R245). -/
def thenOr (r : Byte) (s : State) : State := setZN (s.a ||| r) (setA (s.a ||| r) s)

/-- RLA after the write-back: `A <- A & r; setZN(A)` (R246). -/
def thenAnd (r : Byte) (s : State) : State := setZN (s.a &&& r) (setA (s.a &&& r) s)

/-- SRE after the write-back: `A <- A ^ r; setZN(A)` (R247). -/
def thenXor (r : Byte) (s : State) : State := setZN (s.a ^^^ r) (setA (s.a ^^^ r) s)

/-- RRA after the write-back: `ADD(r)`, the carry-in being the bit rotated out (R248). -/
def thenAdd (r : Byte) (s : State) : State := addToA r s

/-- DCP: `(fetch() - 1) mod 256` (R243). -/
def decremented (v : Byte) (s : State) : Byte × State := (v - 1#8, s)

/-- ISC: `(fetch() + 1) & 0xFF` (R244). -/
def incremented (v : Byte) (s : State) : Byte × State := (v + 1#8, s)

/-- $A3 LAX (z,X) (R241). -/
def execLaxIzx (z : Byte) (s : State) : Out := readInstr 6 true (modeIzx z s) loadAX s

/-- $A7 LAX z (R241). -/
def execLaxZp0 (z : Byte) (s : State) : Out := readInstr 3 true (modeZp0 z) loadAX s

/-- $AF LAX w (R241). -/
def execLaxAbs (w : Addr) (s : State) : Out := readInstr 4 true (modeAbs w) loadAX s

/-- $B3 LAX (z),Y (R241). -/
def execLaxIzy (z : Byte) (s : State) : Out := readInstr 5 true (modeIzy z s) loadAX s

/-- $B7 LAX z,Y (R241). -/
def execLaxZpy (z : Byte) (s : State) : Out := readInstr 4 true (modeZpy z s) loadAX s

/-- $BF LAX w,Y (R241). -/
def execLaxAby (w : Addr) (s : State) : Out := readInstr 4 true (modeAby w s) loadAX s

/-- $83 SAX (z,X) (R242). -/
def execSaxIzx (z : Byte) (s : State) : Out := storeInstr 6 (modeIzx z s) (s.a &&& s.x) s

/-- $87 SAX z (R242). -/
def execSaxZp0 (z : Byte) (s : State) : Out := storeInstr 3 (modeZp0 z) (s.a &&& s.x) s

/-- $8F SAX w (R242). -/
def execSaxAbs (w : Addr) (s : State) : Out := storeInstr 4 (modeAbs w) (s.a &&& s.x) s

/-- $97 SAX z,Y (R242). -/
def execSaxZpy (z : Byte) (s : State) : Out := storeInstr 4 (modeZpy z s) (s.a &&& s.x) s

/-- $C3 DCP (z,X) (R243). -/
def execDcpIzx (z : Byte) (s : State) : Out := rmwInstr 8 (modeIzx z s) decremented thenCompare s

/-- $C7 DCP z (R243). -/
def execDcpZp0 (z : Byte) (s : State) : Out := rmwInstr 5 (modeZp0 z) decremented thenCompare s

/-- $CF DCP w (R243). -/
def execDcpAbs (w : Addr) (s : State) : Out := rmwInstr 6 (modeAbs w) decremented thenCompare s

/-- $D3 DCP (z),Y (R243). -/
def execDcpIzy (z : Byte) (s : State) : Out := rmwInstr 8 (modeIzy z s) decremented thenCompare s

/-- $D7 DCP z,X (R243). -/
def execDcpZpx (z : Byte) (s : State) : Out := rmwInstr 6 (modeZpx z s) decremented thenCompare s

/-- $DB DCP w,Y (R243). -/
def execDcpAby (w : Addr) (s : State) : Out := rmwInstr 7 (modeAby w s) decremented thenCompare s

/-- $DF DCP w,X (R243). -/
def execDcpAbx (w : Addr) (s : State) : Out := rmwInstr 7 (modeAbx w s) decremented thenCompare s

/-- $E3 ISC (z,X) (R244). -/
def execIscIzx (z : Byte) (s : State) : Out := rmwInstr 8 (modeIzx z s) incremented thenSubtract s

/-- $E7 ISC z (R244). -/
def execIscZp0 (z : Byte) (s : State) : Out := rmwInstr 5 (modeZp0 z) incremented thenSubtract s

/-- $EF ISC w (R244). -/
def execIscAbs (w : Addr) (s : State) : Out := rmwInstr 6 (modeAbs w) incremented thenSubtract s

/-- $F3 ISC (z),Y (R244). -/
def execIscIzy (z : Byte) (s : State) : Out := rmwInstr 8 (modeIzy z s) incremented thenSubtract s

/-- $F7 ISC z,X (R244). -/
def execIscZpx (z : Byte) (s : State) : Out := rmwInstr 6 (modeZpx z s) incremented thenSubtract s

/-- $FB ISC w,Y (R244). -/
def execIscAby (w : Addr) (s : State) : Out := rmwInstr 7 (modeAby w s) incremented thenSubtract s

/-- $FF ISC w,X (R244). -/
def execIscAbx (w : Addr) (s : State) : Out := rmwInstr 7 (modeAbx w s) incremented thenSubtract s

/-- $03 SLO (z,X) (R245). -/
def execSloIzx (z : Byte) (s : State) : Out := rmwInstr 8 (modeIzx z s) shiftLeft thenOr s

/-- $07 SLO z (R245). -/
def execSloZp0 (z : Byte) (s : State) : Out := rmwInstr 5 (modeZp0 z) shiftLeft thenOr s

/-- $0F SLO w (R245). -/
def execSloAbs (w : Addr) (s : State) : Out := rmwInstr 6 (modeAbs w) shiftLeft thenOr s

/-- $13 SLO (z),Y (R245). -/
def execSloIzy (z : Byte) (s : State) : Out := rmwInstr 8 (modeIzy z s) shiftLeft thenOr s

/-- $17 SLO z,X (R245). -/
def execSloZpx (z : Byte) (s : State) : Out := rmwInstr 6 (modeZpx z s) shiftLeft thenOr s

/-- $1B SLO w,Y (R245). -/
def execSloAby (w : Addr) (s : State) : Out := rmwInstr 7 (modeAby w s) shiftLeft thenOr s

/-- $1F SLO w,X (R245). -/
def execSloAbx (w : Addr) (s : State) : Out := rmwInstr 7 (modeAbx w s) shiftLeft thenOr s

/-- $23 RLA (z,X) (R246). -/
def execRlaIzx (z : Byte) (s : State) : Out := rmwInstr 8 (modeIzx z s) rotateLeft thenAnd s

/-- $27 RLA z (R246). -/
def execRlaZp0 (z : Byte) (s : State) : Out := rmwInstr 5 (modeZp0 z) rotateLeft thenAnd s

/-- $2F RLA w (R246). -/
def execRlaAbs (w : Addr) (s : State) : Out := rmwInstr 6 (modeAbs w) rotateLeft thenAnd s

/-- $33 RLA (z),Y (R246). -/
def execRlaIzy (z : Byte) (s : State) : Out := rmwInstr 8 (modeIzy z s) rotateLeft thenAnd s

/-- $37 RLA z,X (R246). -/
def execRlaZpx (z : Byte) (s : State) : Out := rmwInstr 6 (modeZpx z s) rotateLeft thenAnd s

/-- $3B RLA w,Y (R246). -/
def execRlaAby (w : Addr) (s : State) : Out := rmwInstr 7 (modeAby w s) rotateLeft thenAnd s

/-- $3F RLA w,X (R246). -/
def execRlaAbx (w : Addr) (s : State) : Out := rmwInstr 7 (modeAbx w s) rotateLeft thenAnd s

/-- $43 SRE (z,X) (R247). -/
def execSreIzx (z : Byte) (s : State) : Out := rmwInstr 8 (modeIzx z s) shiftRight thenXor s

/-- $47 SRE z (R247). -/
def execSreZp0 (z : Byte) (s : State) : Out := rmwInstr 5 (modeZp0 z) shiftRight thenXor s

/-- $4F SRE w (R247). -/
def execSreAbs (w : Addr) (s : State) : Out := rmwInstr 6 (modeAbs w) shiftRight thenXor s

/-- $53 SRE (z),Y (R247). -/
def execSreIzy (z : Byte) (s : State) : Out := rmwInstr 8 (modeIzy z s) shiftRight thenXor s

/-- $57 SRE z,X (R247). -/
def execSreZpx (z : Byte) (s : State) : Out := rmwInstr 6 (modeZpx z s) shiftRight thenXor s

/-- $5B SRE w,Y (R247). -/
def execSreAby (w : Addr) (s : State) : Out := rmwInstr 7 (modeAby w s) shiftRight thenXor s

/-- $5F SRE w,X (R247). -/
def execSreAbx (w : Addr) (s : State) : Out := rmwInstr 7 (modeAbx w s) shiftRight thenXor s

/-- $63 RRA (z,X) (R248). -/
def execRraIzx (z : Byte) (s : State) : Out := rmwInstr 8 (modeIzx z s) rotateRight thenAdd s

/-- $67 RRA z (R248). -/
def execRraZp0 (z : Byte) (s : State) : Out := rmwInstr 5 (modeZp0 z) rotateRight thenAdd s

/-- $6F RRA w (R248). -/
def execRraAbs (w : Addr) (s : State) : Out := rmwInstr 6 (modeAbs w) rotateRight thenAdd s

/-- $73 RRA (z),Y (R248). -/
def execRraIzy (z : Byte) (s : State) : Out := rmwInstr 8 (modeIzy z s) rotateRight thenAdd s

/-- $77 RRA z,X (R248). -/
def execRraZpx (z : Byte) (s : State) : Out := rmwInstr 6 (modeZpx z s) rotateRight thenAdd s

/-- $7B RRA w,Y (R248). -/
def execRraAby (w : Addr) (s : State) : Out := rmwInstr 7 (modeAby w s) rotateRight thenAdd s

/-- $7F RRA w,X (R248). -/
def execRraAbx (w : Addr) (s : State) : Out := rmwInstr 7 (modeAbx w s) rotateRight thenAdd s

end Sys2Proof.Machine
end

