-- ==== Sys2Proof/Machine/Dispatch.lean ====
section
/-! DEFINITION. The meaning of every instruction: one arm a constructor, one call of its meaning. -/

namespace Sys2Proof.Machine

def exec (i : Instr) (s : State) : Host.Outcome State Fault Refusal :=
  match i with
  | .brk => Sys2Proof.Machine.execBrk s
  | .oraIzx z => Sys2Proof.Machine.execOraIzx z s
  | .xxx02 => Sys2Proof.Machine.execXxx02 s
  | .sloIzx z => Sys2Proof.Machine.execSloIzx z s
  | .nopZp004 z => Sys2Proof.Machine.execNopZp004 z s
  | .oraZp0 z => Sys2Proof.Machine.execOraZp0 z s
  | .aslZp0 z => Sys2Proof.Machine.execAslZp0 z s
  | .sloZp0 z => Sys2Proof.Machine.execSloZp0 z s
  | .php => Sys2Proof.Machine.execPhp s
  | .oraImm n => Sys2Proof.Machine.execOraImm n s
  | .aslAcc => Sys2Proof.Machine.execAslAcc s
  | .xxx0b => Sys2Proof.Machine.execXxx0b s
  | .nopAbs0c w => Sys2Proof.Machine.execNopAbs0c w s
  | .oraAbs w => Sys2Proof.Machine.execOraAbs w s
  | .aslAbs w => Sys2Proof.Machine.execAslAbs w s
  | .sloAbs w => Sys2Proof.Machine.execSloAbs w s
  | .bpl d => Sys2Proof.Machine.execBpl d s
  | .oraIzy z => Sys2Proof.Machine.execOraIzy z s
  | .xxx12 => Sys2Proof.Machine.execXxx12 s
  | .sloIzy z => Sys2Proof.Machine.execSloIzy z s
  | .nopZpx14 z => Sys2Proof.Machine.execNopZpx14 z s
  | .oraZpx z => Sys2Proof.Machine.execOraZpx z s
  | .aslZpx z => Sys2Proof.Machine.execAslZpx z s
  | .sloZpx z => Sys2Proof.Machine.execSloZpx z s
  | .clc => Sys2Proof.Machine.execClc s
  | .oraAby w => Sys2Proof.Machine.execOraAby w s
  | .nopImp1a => Sys2Proof.Machine.execNopImp1a s
  | .sloAby w => Sys2Proof.Machine.execSloAby w s
  | .nopAbx1c w => Sys2Proof.Machine.execNopAbx1c w s
  | .oraAbx w => Sys2Proof.Machine.execOraAbx w s
  | .aslAbx w => Sys2Proof.Machine.execAslAbx w s
  | .sloAbx w => Sys2Proof.Machine.execSloAbx w s
  | .jsr w => Sys2Proof.Machine.execJsr w s
  | .andIzx z => Sys2Proof.Machine.execAndIzx z s
  | .xxx22 => Sys2Proof.Machine.execXxx22 s
  | .rlaIzx z => Sys2Proof.Machine.execRlaIzx z s
  | .bitZp0 z => Sys2Proof.Machine.execBitZp0 z s
  | .andZp0 z => Sys2Proof.Machine.execAndZp0 z s
  | .rolZp0 z => Sys2Proof.Machine.execRolZp0 z s
  | .rlaZp0 z => Sys2Proof.Machine.execRlaZp0 z s
  | .plp => Sys2Proof.Machine.execPlp s
  | .andImm n => Sys2Proof.Machine.execAndImm n s
  | .rolAcc => Sys2Proof.Machine.execRolAcc s
  | .xxx2b => Sys2Proof.Machine.execXxx2b s
  | .bitAbs w => Sys2Proof.Machine.execBitAbs w s
  | .andAbs w => Sys2Proof.Machine.execAndAbs w s
  | .rolAbs w => Sys2Proof.Machine.execRolAbs w s
  | .rlaAbs w => Sys2Proof.Machine.execRlaAbs w s
  | .bmi d => Sys2Proof.Machine.execBmi d s
  | .andIzy z => Sys2Proof.Machine.execAndIzy z s
  | .xxx32 => Sys2Proof.Machine.execXxx32 s
  | .rlaIzy z => Sys2Proof.Machine.execRlaIzy z s
  | .nopZpx34 z => Sys2Proof.Machine.execNopZpx34 z s
  | .andZpx z => Sys2Proof.Machine.execAndZpx z s
  | .rolZpx z => Sys2Proof.Machine.execRolZpx z s
  | .rlaZpx z => Sys2Proof.Machine.execRlaZpx z s
  | .sec => Sys2Proof.Machine.execSec s
  | .andAby w => Sys2Proof.Machine.execAndAby w s
  | .nopImp3a => Sys2Proof.Machine.execNopImp3a s
  | .rlaAby w => Sys2Proof.Machine.execRlaAby w s
  | .nopAbx3c w => Sys2Proof.Machine.execNopAbx3c w s
  | .andAbx w => Sys2Proof.Machine.execAndAbx w s
  | .rolAbx w => Sys2Proof.Machine.execRolAbx w s
  | .rlaAbx w => Sys2Proof.Machine.execRlaAbx w s
  | .rti => Sys2Proof.Machine.execRti s
  | .eorIzx z => Sys2Proof.Machine.execEorIzx z s
  | .xxx42 => Sys2Proof.Machine.execXxx42 s
  | .sreIzx z => Sys2Proof.Machine.execSreIzx z s
  | .nopZp044 z => Sys2Proof.Machine.execNopZp044 z s
  | .eorZp0 z => Sys2Proof.Machine.execEorZp0 z s
  | .lsrZp0 z => Sys2Proof.Machine.execLsrZp0 z s
  | .sreZp0 z => Sys2Proof.Machine.execSreZp0 z s
  | .pha => Sys2Proof.Machine.execPha s
  | .eorImm n => Sys2Proof.Machine.execEorImm n s
  | .lsrAcc => Sys2Proof.Machine.execLsrAcc s
  | .xxx4b => Sys2Proof.Machine.execXxx4b s
  | .jmpAbs w => Sys2Proof.Machine.execJmpAbs w s
  | .eorAbs w => Sys2Proof.Machine.execEorAbs w s
  | .lsrAbs w => Sys2Proof.Machine.execLsrAbs w s
  | .sreAbs w => Sys2Proof.Machine.execSreAbs w s
  | .bvc d => Sys2Proof.Machine.execBvc d s
  | .eorIzy z => Sys2Proof.Machine.execEorIzy z s
  | .xxx52 => Sys2Proof.Machine.execXxx52 s
  | .sreIzy z => Sys2Proof.Machine.execSreIzy z s
  | .nopZpx54 z => Sys2Proof.Machine.execNopZpx54 z s
  | .eorZpx z => Sys2Proof.Machine.execEorZpx z s
  | .lsrZpx z => Sys2Proof.Machine.execLsrZpx z s
  | .sreZpx z => Sys2Proof.Machine.execSreZpx z s
  | .cli => Sys2Proof.Machine.execCli s
  | .eorAby w => Sys2Proof.Machine.execEorAby w s
  | .nopImp5a => Sys2Proof.Machine.execNopImp5a s
  | .sreAby w => Sys2Proof.Machine.execSreAby w s
  | .nopAbx5c w => Sys2Proof.Machine.execNopAbx5c w s
  | .eorAbx w => Sys2Proof.Machine.execEorAbx w s
  | .lsrAbx w => Sys2Proof.Machine.execLsrAbx w s
  | .sreAbx w => Sys2Proof.Machine.execSreAbx w s
  | .rts => Sys2Proof.Machine.execRts s
  | .adcIzx z => Sys2Proof.Machine.execAdcIzx z s
  | .xxx62 => Sys2Proof.Machine.execXxx62 s
  | .rraIzx z => Sys2Proof.Machine.execRraIzx z s
  | .nopZp064 z => Sys2Proof.Machine.execNopZp064 z s
  | .adcZp0 z => Sys2Proof.Machine.execAdcZp0 z s
  | .rorZp0 z => Sys2Proof.Machine.execRorZp0 z s
  | .rraZp0 z => Sys2Proof.Machine.execRraZp0 z s
  | .pla => Sys2Proof.Machine.execPla s
  | .adcImm n => Sys2Proof.Machine.execAdcImm n s
  | .rorAcc => Sys2Proof.Machine.execRorAcc s
  | .xxx6b => Sys2Proof.Machine.execXxx6b s
  | .jmpInd w => Sys2Proof.Machine.execJmpInd w s
  | .adcAbs w => Sys2Proof.Machine.execAdcAbs w s
  | .rorAbs w => Sys2Proof.Machine.execRorAbs w s
  | .rraAbs w => Sys2Proof.Machine.execRraAbs w s
  | .bvs d => Sys2Proof.Machine.execBvs d s
  | .adcIzy z => Sys2Proof.Machine.execAdcIzy z s
  | .xxx72 => Sys2Proof.Machine.execXxx72 s
  | .rraIzy z => Sys2Proof.Machine.execRraIzy z s
  | .nopZpx74 z => Sys2Proof.Machine.execNopZpx74 z s
  | .adcZpx z => Sys2Proof.Machine.execAdcZpx z s
  | .rorZpx z => Sys2Proof.Machine.execRorZpx z s
  | .rraZpx z => Sys2Proof.Machine.execRraZpx z s
  | .sei => Sys2Proof.Machine.execSei s
  | .adcAby w => Sys2Proof.Machine.execAdcAby w s
  | .nopImp7a => Sys2Proof.Machine.execNopImp7a s
  | .rraAby w => Sys2Proof.Machine.execRraAby w s
  | .nopAbx7c w => Sys2Proof.Machine.execNopAbx7c w s
  | .adcAbx w => Sys2Proof.Machine.execAdcAbx w s
  | .rorAbx w => Sys2Proof.Machine.execRorAbx w s
  | .rraAbx w => Sys2Proof.Machine.execRraAbx w s
  | .nopImm80 n => Sys2Proof.Machine.execNopImm80 n s
  | .staIzx z => Sys2Proof.Machine.execStaIzx z s
  | .nopImm82 n => Sys2Proof.Machine.execNopImm82 n s
  | .saxIzx z => Sys2Proof.Machine.execSaxIzx z s
  | .styZp0 z => Sys2Proof.Machine.execStyZp0 z s
  | .staZp0 z => Sys2Proof.Machine.execStaZp0 z s
  | .stxZp0 z => Sys2Proof.Machine.execStxZp0 z s
  | .saxZp0 z => Sys2Proof.Machine.execSaxZp0 z s
  | .dey => Sys2Proof.Machine.execDey s
  | .nopImm89 n => Sys2Proof.Machine.execNopImm89 n s
  | .txa => Sys2Proof.Machine.execTxa s
  | .xxx8b => Sys2Proof.Machine.execXxx8b s
  | .styAbs w => Sys2Proof.Machine.execStyAbs w s
  | .staAbs w => Sys2Proof.Machine.execStaAbs w s
  | .stxAbs w => Sys2Proof.Machine.execStxAbs w s
  | .saxAbs w => Sys2Proof.Machine.execSaxAbs w s
  | .bcc d => Sys2Proof.Machine.execBcc d s
  | .staIzy z => Sys2Proof.Machine.execStaIzy z s
  | .xxx92 => Sys2Proof.Machine.execXxx92 s
  | .xxx93 => Sys2Proof.Machine.execXxx93 s
  | .styZpx z => Sys2Proof.Machine.execStyZpx z s
  | .staZpx z => Sys2Proof.Machine.execStaZpx z s
  | .stxZpy z => Sys2Proof.Machine.execStxZpy z s
  | .saxZpy z => Sys2Proof.Machine.execSaxZpy z s
  | .tya => Sys2Proof.Machine.execTya s
  | .staAby w => Sys2Proof.Machine.execStaAby w s
  | .txs => Sys2Proof.Machine.execTxs s
  | .xxx9b => Sys2Proof.Machine.execXxx9b s
  | .xxx9c => Sys2Proof.Machine.execXxx9c s
  | .staAbx w => Sys2Proof.Machine.execStaAbx w s
  | .xxx9e => Sys2Proof.Machine.execXxx9e s
  | .xxx9f => Sys2Proof.Machine.execXxx9f s
  | .ldyImm n => Sys2Proof.Machine.execLdyImm n s
  | .ldaIzx z => Sys2Proof.Machine.execLdaIzx z s
  | .ldxImm n => Sys2Proof.Machine.execLdxImm n s
  | .laxIzx z => Sys2Proof.Machine.execLaxIzx z s
  | .ldyZp0 z => Sys2Proof.Machine.execLdyZp0 z s
  | .ldaZp0 z => Sys2Proof.Machine.execLdaZp0 z s
  | .ldxZp0 z => Sys2Proof.Machine.execLdxZp0 z s
  | .laxZp0 z => Sys2Proof.Machine.execLaxZp0 z s
  | .tay => Sys2Proof.Machine.execTay s
  | .ldaImm n => Sys2Proof.Machine.execLdaImm n s
  | .tax => Sys2Proof.Machine.execTax s
  | .xxxab => Sys2Proof.Machine.execXxxab s
  | .ldyAbs w => Sys2Proof.Machine.execLdyAbs w s
  | .ldaAbs w => Sys2Proof.Machine.execLdaAbs w s
  | .ldxAbs w => Sys2Proof.Machine.execLdxAbs w s
  | .laxAbs w => Sys2Proof.Machine.execLaxAbs w s
  | .bcs d => Sys2Proof.Machine.execBcs d s
  | .ldaIzy z => Sys2Proof.Machine.execLdaIzy z s
  | .xxxb2 => Sys2Proof.Machine.execXxxb2 s
  | .laxIzy z => Sys2Proof.Machine.execLaxIzy z s
  | .ldyZpx z => Sys2Proof.Machine.execLdyZpx z s
  | .ldaZpx z => Sys2Proof.Machine.execLdaZpx z s
  | .ldxZpy z => Sys2Proof.Machine.execLdxZpy z s
  | .laxZpy z => Sys2Proof.Machine.execLaxZpy z s
  | .clv => Sys2Proof.Machine.execClv s
  | .ldaAby w => Sys2Proof.Machine.execLdaAby w s
  | .tsx => Sys2Proof.Machine.execTsx s
  | .xxxbb => Sys2Proof.Machine.execXxxbb s
  | .ldyAbx w => Sys2Proof.Machine.execLdyAbx w s
  | .ldaAbx w => Sys2Proof.Machine.execLdaAbx w s
  | .ldxAby w => Sys2Proof.Machine.execLdxAby w s
  | .laxAby w => Sys2Proof.Machine.execLaxAby w s
  | .cpyImm n => Sys2Proof.Machine.execCpyImm n s
  | .cmpIzx z => Sys2Proof.Machine.execCmpIzx z s
  | .nopImmc2 n => Sys2Proof.Machine.execNopImmc2 n s
  | .dcpIzx z => Sys2Proof.Machine.execDcpIzx z s
  | .cpyZp0 z => Sys2Proof.Machine.execCpyZp0 z s
  | .cmpZp0 z => Sys2Proof.Machine.execCmpZp0 z s
  | .decZp0 z => Sys2Proof.Machine.execDecZp0 z s
  | .dcpZp0 z => Sys2Proof.Machine.execDcpZp0 z s
  | .iny => Sys2Proof.Machine.execIny s
  | .cmpImm n => Sys2Proof.Machine.execCmpImm n s
  | .dex => Sys2Proof.Machine.execDex s
  | .xxxcb => Sys2Proof.Machine.execXxxcb s
  | .cpyAbs w => Sys2Proof.Machine.execCpyAbs w s
  | .cmpAbs w => Sys2Proof.Machine.execCmpAbs w s
  | .decAbs w => Sys2Proof.Machine.execDecAbs w s
  | .dcpAbs w => Sys2Proof.Machine.execDcpAbs w s
  | .bne d => Sys2Proof.Machine.execBne d s
  | .cmpIzy z => Sys2Proof.Machine.execCmpIzy z s
  | .xxxd2 => Sys2Proof.Machine.execXxxd2 s
  | .dcpIzy z => Sys2Proof.Machine.execDcpIzy z s
  | .nopZpxd4 z => Sys2Proof.Machine.execNopZpxd4 z s
  | .cmpZpx z => Sys2Proof.Machine.execCmpZpx z s
  | .decZpx z => Sys2Proof.Machine.execDecZpx z s
  | .dcpZpx z => Sys2Proof.Machine.execDcpZpx z s
  | .cld => Sys2Proof.Machine.execCld s
  | .cmpAby w => Sys2Proof.Machine.execCmpAby w s
  | .nopImpda => Sys2Proof.Machine.execNopImpda s
  | .dcpAby w => Sys2Proof.Machine.execDcpAby w s
  | .nopAbxdc w => Sys2Proof.Machine.execNopAbxdc w s
  | .cmpAbx w => Sys2Proof.Machine.execCmpAbx w s
  | .decAbx w => Sys2Proof.Machine.execDecAbx w s
  | .dcpAbx w => Sys2Proof.Machine.execDcpAbx w s
  | .cpxImm n => Sys2Proof.Machine.execCpxImm n s
  | .sbcIzx z => Sys2Proof.Machine.execSbcIzx z s
  | .nopImme2 n => Sys2Proof.Machine.execNopImme2 n s
  | .iscIzx z => Sys2Proof.Machine.execIscIzx z s
  | .cpxZp0 z => Sys2Proof.Machine.execCpxZp0 z s
  | .sbcZp0 z => Sys2Proof.Machine.execSbcZp0 z s
  | .incZp0 z => Sys2Proof.Machine.execIncZp0 z s
  | .iscZp0 z => Sys2Proof.Machine.execIscZp0 z s
  | .inx => Sys2Proof.Machine.execInx s
  | .sbcImm n => Sys2Proof.Machine.execSbcImm n s
  | .nop => Sys2Proof.Machine.execNop s
  | .sbcImmEb n => Sys2Proof.Machine.execSbcImmEb n s
  | .cpxAbs w => Sys2Proof.Machine.execCpxAbs w s
  | .sbcAbs w => Sys2Proof.Machine.execSbcAbs w s
  | .incAbs w => Sys2Proof.Machine.execIncAbs w s
  | .iscAbs w => Sys2Proof.Machine.execIscAbs w s
  | .beq d => Sys2Proof.Machine.execBeq d s
  | .sbcIzy z => Sys2Proof.Machine.execSbcIzy z s
  | .xxxf2 => Sys2Proof.Machine.execXxxf2 s
  | .iscIzy z => Sys2Proof.Machine.execIscIzy z s
  | .nopZpxf4 z => Sys2Proof.Machine.execNopZpxf4 z s
  | .sbcZpx z => Sys2Proof.Machine.execSbcZpx z s
  | .incZpx z => Sys2Proof.Machine.execIncZpx z s
  | .iscZpx z => Sys2Proof.Machine.execIscZpx z s
  | .sed => Sys2Proof.Machine.execSed s
  | .sbcAby w => Sys2Proof.Machine.execSbcAby w s
  | .nopImpfa => Sys2Proof.Machine.execNopImpfa s
  | .iscAby w => Sys2Proof.Machine.execIscAby w s
  | .nopAbxfc w => Sys2Proof.Machine.execNopAbxfc w s
  | .sbcAbx w => Sys2Proof.Machine.execSbcAbx w s
  | .incAbx w => Sys2Proof.Machine.execIncAbx w s
  | .iscAbx w => Sys2Proof.Machine.execIscAbx w s

end Sys2Proof.Machine
end

