-- ==== Sys2Proof/Machine/Fetch.lean ====
section
/-! DEFINITION. Fetching an instruction (spec/40_engine_addressing.md R132, R133, R138): the opcode byte and the
operand bytes are ordinary CPU-bus reads at PC, each advancing PC by one, with the side effects of the address
read. -/

namespace Sys2Proof.Machine

/-- `MemRead(PC, 1); PC <- PC + 1`, the sum modulo 2^16 (10_state.md R21). -/
def readAtPc (s : State) : Byte × State :=
  let r := memRead s.pc s
  (r.1, setPc (s.pc + 1#16) r.2)

/-- The opcode fetch: `opcode <- MemRead(PC, 1); PC <- PC + 1`. -/
def fetchOpcode (s : State) : State :=
  let r := readAtPc s
  setOpcode r.1 r.2

/-- The operand bytes after the opcode fetch. The operand byte of a no-operation in mode IMM is stepped over
without a bus read (`OperandFetch.skipped`, log 8). -/
def fetchOperands (s : State) : Instr × State :=
  match operandFetch (entryOf s.opcode) with
  | .none => (instrOf s.opcode 0 0, s)
  | .skipped => (instrOf s.opcode (busValue s.pc s) 0, setPc (s.pc + 1#16) s)
  | .one =>
    let b := readAtPc s
    (instrOf s.opcode b.1 0, b.2)
  | .two =>
    let b1 := readAtPc s
    let b2 := readAtPc b1.2
    (instrOf s.opcode b1.1 b2.1, b2.2)

/-- The instruction at PC, and the state with PC past it. -/
def fetchInstr (s : State) : Instr × State := fetchOperands (fetchOpcode s)

end Sys2Proof.Machine
end

