-- ==== Sys2Proof/Machine/Clock.lean ====
section
/-! DEFINITION. The CPU clock (spec/40_engine_addressing.md R130), the interrupt check (spec/60_exceptions.md R302)
and the master tick (R300), and how a word is placed where the next fetch reads it. -/

namespace Sys2Proof.Machine

/-- The end of a counted CPU clock: `remaining <- remaining - 1; cycles <- cycles + 1` (R130). -/
def countClock (s : State) : State := { s with remaining := s.remaining - 1, cycles := s.cycles + 1#64 }

/-- A clock in which a halting fault happened is not counted (R130, D6). -/
def countClockUnlessHalted (s : State) : State := if s.halted then s else countClock s

/-- `execute_one()` (R132). -/
def executeOne (s : State) : Out :=
  let f := fetchInstr s
  exec f.1 f.2

/-- `cpu_clock()` of a system that is not halted (R130). -/
def cpuClock (s : State) : Out :=
  if s.remaining = 0 then
    match executeOne s with
    | .next t => .next (countClockUnlessHalted t)
    | .fault r => .fault r
    | .refused r => .refused r
  else .next (countClock s)

/-- `interrupt_check()` (R302): at a boundary, first a pending NMI, then the IRQ line if I is clear. -/
def interruptCheck (s : State) : State :=
  if s.remaining ≠ 0 then s
  else if s.nmiPending then interruptEntry nmiVector 8 { s with nmiPending := false }
  else if s.irqLine && !s.flag .i then interruptEntry irqVector 7 s
  else s

/-- The CPU clocks on the ticks whose `SYS.master` is a multiple of 3 (R301, D1). -/
def isCpuTick (s : State) : Bool := s.master.toNat % 3 == 0

/-- The end of a tick: the interrupt check unless halted, then `SYS.master <- SYS.master + 1` (R300). -/
def endTick (s : State) : State :=
  let s1 := if s.halted then s else interruptCheck s
  { s1 with master := s1.master + 1#64 }

/-- `cycle()`, one master tick (R300): nothing at all when halted. -/
def masterTick (s : State) : Out :=
  if s.halted then .next s
  else
    let s1 := ppuTick s
    if isCpuTick s1 then
      match cpuClock s1 with
      | .next t => .next (endTick t)
      | .fault r => .fault r
      | .refused r => .refused r
    else .next (endTick s1)

/-! ### Placing an instruction -/

/-- An address whose byte a store of the program's loader can set: RAM or PRG ROM. -/
def placeable (a : Addr) : Bool := regionOf a == .ram || regionOf a == .prgRom

/-- Set the byte the bus reads at an address, PRG ROM included (it is what the cartridge image holds, not a bus
write). -/
def placeByte (a : Addr) (b : Byte) (s : State) : State :=
  match regionOf a with
  | .ram => { s with ram := s.ram.write (ramIndex a) b }
  | .prgRom => { s with cart := { s.cart with prg := s.cart.prg.write (mapPrgRead s.cart.prgBanks a) b } }
  | .ppuRegs | .apu | .controller1 | .controller2 | .testMode | .expansion => s

/-- Where an instruction of three bytes is placed: at PC where its bytes are memory, else at $8000 (log 11). -/
def placeAt (pc : Addr) : Addr :=
  if placeable pc && placeable (pc + 1#16) && placeable (pc + 2#16) then pc else 0x8000#16

/-- The state whose next step fetches and runs the instruction of a table word: its bytes stored at PC, no cycle
owed, not halted, and the master counter on a CPU tick (log 11). -/
def placeWord (nbits w : Nat) (s : State) : State :=
  let bits := w % 2 ^ nbits
  let pc := placeAt s.pc
  let s1 := placeByte pc (tableByte bits 0) s
  let s2 := placeByte (pc + 1#16) (tableByte bits 1) s1
  let s3 := placeByte (pc + 2#16) (tableByte bits 2) s2
  { s3 with pc := pc, remaining := 0, halted := false, master := s3.master - BitVec.ofNat 64 (s3.master.toNat % 3) }

end Sys2Proof.Machine
end

