-- ==== Sys2Proof/Machine/Step.lean ====
section
/-! DEFINITION. One step of the machine is one master tick, the spec's time unit (spec/00_scope.md R4,
spec/60_exceptions.md R300; log 6). -/

namespace Sys2Proof.Machine

/-- One master tick. -/
def step (s : State) : Host.Outcome State Fault Refusal := masterTick s

/-- `s` with the instruction of a table word where the next step fetches it (log 11). -/
def State.withFetchWord (s : State) (nbits w : Nat) : State := placeWord nbits w s

end Sys2Proof.Machine
end

