-- ==== Sys2Proof/Machine/Cartridge.lean ====
section
/-! DEFINITION. The cartridge image, its iNES header, construction with its refusals, and the system reset
(spec/20_memory.md R66 to R68, spec/60_exceptions.md R260, R307, R308, spec/10_state.md R40). -/

namespace Sys2Proof.Machine

/-- The mirroring an image asks for: "horizontal or vertical, or the four-screen override" (R66). -/
inductive ImageMirroring where
  | horizontal
  | vertical
  | fourScreen
deriving DecidableEq, Repr

/-- "a structured cartridge image" (R66). -/
structure CartridgeImage where
  prgBanks : Nat
  chrBanks : Nat
  mirroring : ImageMirroring
  trainer : Bool
  mapper : Nat
  prg : List Byte
  chr : List Byte
deriving DecidableEq, Repr

/-- What the check of an image answers. -/
inductive ImageCheck where
  | accepted (banks : PrgBanks) (mirror : Mirroring)
  | refused (r : Refusal)
deriving DecidableEq, Repr

/-- "this block accepts only `prg_banks` in {1, 2} and `chr_banks == 1`" (R68). -/
def acceptedBanks (prgBanks chrBanks : Nat) : Option PrgBanks :=
  if chrBanks = 1 then (if prgBanks = 1 then some .one else if prgBanks = 2 then some .two else none) else none

/-- "Malformed cartridge ...: fatal at load" (R68). -/
def checkImage (img : CartridgeImage) : ImageCheck :=
  if img.mapper ≠ 0 then .refused .unsupportedMapper
  else if img.trainer then .refused .trainerPresent
  else
    match img.mirroring, acceptedBanks img.prgBanks img.chrBanks with
    | .fourScreen, _ => .refused .fourScreenMirroring
    | _, none => .refused .unsupportedBankCount
    | .horizontal, some b =>
      if img.prg.length = b.size ∧ img.chr.length = chrSize then .accepted b .horizontal else .refused .imageSize
    | .vertical, some b =>
      if img.prg.length = b.size ∧ img.chr.length = chrSize then .accepted b .vertical else .refused .imageSize

/-- The cartridge of an accepted image. -/
def cartridgeOf (img : CartridgeImage) (banks : PrgBanks) (mirror : Mirroring) : Cartridge :=
  { prg := Memory.ofBytes img.prg, chr := Memory.ofBytes img.chr, prgBanks := banks, mirror := mirror }

/-- Construction (R308): the state of R40's construction column, or a refusal. A PPU_RESET_POSITION out of range is
refused (R283). -/
def construct (img : CartridgeImage) (params : Params) : Out :=
  match checkImage img with
  | .refused r => .refused r
  | .accepted banks mirror =>
    if validPosition params.resetScanline params.resetDot then
      .next (State.constructed (cartridgeOf img banks mirror) params)
    else .refused .invalidResetPosition

/-- `cpu_reset()` (R260): PC from $FFFC, 7 cycles owed, nothing pushed. -/
def cpuReset (s : State) : State :=
  let r := memRead16 resetVector
    { s with a := 0, x := 0, y := 0, p := 0, sp := 0xFD }
  { r.2 with pc := r.1, opcode := 0, fetched := 0, ea := 0, cycles := 0, instructions := 0, remaining := 7 }

/-- `reset()` (R307): the memories, the controllers, the cartridge and the fault state are unchanged (D29, D31). -/
def systemReset (s : State) : State :=
  cpuReset { s with
    ppu := Ppu.atPosition s.params.resetScanline s.params.resetDot
    nmiPending := false
    master := 0 }

/-- Power-on: construction followed by `reset` (70_reset_and_hazards.md R340). -/
def powerOn (img : CartridgeImage) (params : Params) : Out :=
  match construct img params with
  | .next s => .next (systemReset s)
  | .fault r => .fault r
  | .refused r => .refused r

/-! ### The iNES header (R67) -/

/-- What parsing a file answers. -/
inductive ParseResult where
  | image (img : CartridgeImage)
  | refused (r : Refusal)
deriving DecidableEq, Repr

/-- Mirroring from byte 6: bit 3 overrides to four-screen, else bit 0 (R67). -/
def headerMirroring (flags6 : Byte) : ImageMirroring :=
  if flags6.getLsbD 3 then .fourScreen else if flags6.getLsbD 0 then .vertical else .horizontal

/-- `(byte7 & 0xF0) | (byte6 >> 4)` (R67). -/
def headerMapper (flags6 flags7 : Byte) : Nat := ((flags7 &&& 0xF0) ||| (flags6 >>> 4)).toNat

/-- The image of a file: 16-byte header, then PRG data, then CHR data (R67, log 13). "bad magic" and "PRG/CHR size
exceeds the file" are refused here, a trainer and four-screen mirroring too (R68). -/
def parseInes (file : List Byte) : ParseResult :=
  match file with
  | m0 :: m1 :: m2 :: m3 :: prgBanks :: chrBanks :: flags6 :: flags7 :: _ :: _ :: _ :: _ :: _ :: _ :: _ :: _ :: body =>
    if m0 = 0x4E ∧ m1 = 0x45 ∧ m2 = 0x53 ∧ m3 = 0x1A then
      if flags6.getLsbD 2 then .refused .trainerPresent
      else if headerMirroring flags6 = .fourScreen then .refused .fourScreenMirroring
      else if headerMapper flags6 flags7 ≠ 0 then .refused .unsupportedMapper
      else if body.length < prgBanks.toNat * 16384 + chrBanks.toNat * 8192 then .refused .imageSize
      else
        .image
          { prgBanks := prgBanks.toNat, chrBanks := chrBanks.toNat, mirroring := headerMirroring flags6
            trainer := false, mapper := headerMapper flags6 flags7
            prg := body.take (prgBanks.toNat * 16384)
            chr := (body.drop (prgBanks.toNat * 16384)).take (chrBanks.toNat * 8192) }
    else .refused .badMagic
  | _ => .refused .badMagic

end Sys2Proof.Machine
end

