-- ==== Sys2Proof/Machine/Render.lean ====
section
/-! DEFINITION. The renderers (spec/60_exceptions.md R296 to R299): the tile decoder, the colour lookup, the
background and the pattern-table images. They read the PPU bus only and change no state. An image is a list of
rows of colours (log 14). -/

namespace Sys2Proof.Machine

/-- A row of an image is its pixels from left to right. -/
abbrev Image := List (List Rgb)

/-- `tile(base, idx, x, y)` (R296), a 2-bit palette index. -/
def tilePixel (base : Addr) (idx : Byte) (x y : Nat) (s : State) : Nat :=
  let row := base + BitVec.ofNat 16 (idx.toNat * 16 + y)
  let p0 := ppuRead row s
  let p1 := ppuRead (row + 8#16) s
  (p0.getLsbD (7 - x)).toNat ||| ((p1.getLsbD (7 - x)).toNat <<< 1)

/-- `colour(p, e)` (R299): palette entry, masked to 6 bits, through the open table NTSC_PALETTE. -/
def colour (p e : Nat) (s : State) : Rgb :=
  Config.ntscPalette ((palRead (0x3F00#16 + BitVec.ofNat 16 (p * 4 + e)) s).setWidth 6)

/-- Where a tile of the screen comes from (R297): the nametable base, the tile row and the tile column, wrapped into
the neighbouring nametable. -/
structure TileSource where
  base : Addr
  row : Nat
  col : Nat
deriving DecidableEq, Repr

/-- The source of screen tile (sx, sy), 32 by 30 tiles (R297): nametable selector `ctrl[1:0]`, coarse scroll `t[4:0]`
and `t[9:5] mod 30`. -/
def tileSource (sx sy : Nat) (s : State) : TileSource :=
  let nt := s.ppu.ctrl.toNat % 4
  let cx := s.ppu.t.toNat % 32
  let cy := (s.ppu.t.toNat / 32 % 32) % 30
  let hx := if 32 ≤ cx + sx then 1 else 0
  let vy := if 30 ≤ cy + sy then 1 else 0
  let n := nt ^^^ (vy * 2 + hx)
  { base := BitVec.ofNat 16 (0x2000 + n * 0x400)
    row := if 30 ≤ cy + sy then cy + sy - 30 else cy + sy
    col := if 32 ≤ cx + sx then cx + sx - 32 else cx + sx }

/-- The tile index byte of a source (R297). -/
def tileIndex (q : TileSource) (s : State) : Byte :=
  ppuRead (q.base + BitVec.ofNat 16 (q.row * 32 + q.col)) s

/-- The attribute byte of a source (R297). -/
def tileAttribute (q : TileSource) (s : State) : Byte :=
  ppuRead (q.base + BitVec.ofNat 16 (960 + (q.row / 4) * 8 + q.col / 4)) s

/-- `(attr >> ((((row & 2) | ((col & 2) >> 1))) * 2)) & 3` (R297). -/
def quadrantPalette (attr : Byte) (row col : Nat) : Nat :=
  (attr.toNat >>> (((row &&& 2) ||| ((col &&& 2) >>> 1)) * 2)) &&& 3

/-- The background pattern base, bit 4 of PPUCTRL (10_state.md R30). -/
def backgroundBase (s : State) : Addr := if s.ppu.ctrl.getLsbD 4 then 0x1000#16 else 0x0000#16

/-- Pixel (px, py) of the background (R297): pixel (px mod 8, py mod 8) of screen tile (px / 8, py / 8). -/
def backgroundPixel (px py : Nat) (s : State) : Rgb :=
  let q := tileSource (px / 8) (py / 8) s
  colour (quadrantPalette (tileAttribute q s) q.row q.col)
    (tilePixel (backgroundBase s) (tileIndex q s) (px % 8) (py % 8) s) s

/-- `renderBackground()` (R297): 240 rows of 256 pixels. -/
def renderBackground (s : State) : Image :=
  (List.range 240).map fun py => (List.range 256).map fun px => backgroundPixel px py s

/-- Pixel (px, py) of the pattern-table image (R298): tile `i` stands at tile row `i >> 4`, tile column `i & 15`. -/
def patternPixel (table palette px py : Nat) (s : State) : Rgb :=
  colour palette
    (tilePixel (BitVec.ofNat 16 (table * 0x1000)) (BitVec.ofNat 8 ((py / 8) * 16 + px / 8)) (px % 8) (py % 8) s) s

/-- The 128 by 128 image of `renderPatternTable(table, palette)` for arguments in range (R298). -/
def patternImage (table palette : Nat) (s : State) : Image :=
  (List.range 128).map fun py => (List.range 128).map fun px => patternPixel table palette px py s

end Sys2Proof.Machine
end

