-- ==== Sys2Proof/Machine/Calls.lean ====
section
/-! DEFINITION. The operations the outside calls between master ticks (spec/60_exceptions.md R305 to R309), the
input IRQ_LINE, and the single step of D45. -/

namespace Sys2Proof.Machine

/-- "RIGHT 0x80, LEFT 0x40, DOWN 0x20, UP 0x10, START 0x08, SELECT 0x04, B 0x02, A 0x01" (R305). -/
def validButton (button : Byte) : Bool :=
  button = 0x80 || button = 0x40 || button = 0x20 || button = 0x10 ||
  button = 0x08 || button = 0x04 || button = 0x02 || button = 0x01

/-- Press or release a button of one controller: "updates the buffer only" (R305). -/
def pressButton (button : Byte) (pressed : Bool) (c : Controller) : Controller :=
  { c with buttons := if pressed then c.buttons ||| button else c.buttons &&& ~~~button }

/-- `setButton(port, button, pressed)` (R305); a port or a button out of range is refused (D42). -/
def setButton (port : Nat) (button : Byte) (pressed : Bool) (s : State) : Out :=
  if !validButton button then .refused .invalidButton
  else if port = 0 then .next { s with ctl0 := pressButton button pressed s.ctl0 }
  else if port = 1 then .next { s with ctl1 := pressButton button pressed s.ctl1 }
  else .refused .invalidPort

/-- The input IRQ_LINE (R262): driven from outside, level-sensitive (log 4). -/
def setIrqLine (asserted : Bool) (s : State) : State := { s with irqLine := asserted }

/-- `renderPatternTable(table, palette)` (R298): "An argument outside its range is refused". -/
def renderPatternTable (table palette : Nat) (s : State) : Host.Outcome Image Fault Refusal :=
  if table ≤ 1 ∧ palette ≤ 7 then .next (patternImage table palette s) else .refused .invalidRenderArgument

/-- `getFault()` (R309, D35). -/
def getFault (s : State) : Bool × Option Fault × Bool := (s.halted, s.fault, s.romWriteSeen)

/-- Ticks while `more` holds of the state, at most `fuel` of them. -/
def ticksWhile (more : State → Bool) : Nat → State → Out
  | 0, s => .next s
  | fuel + 1, s =>
    if more s then
      match step s with
      | .next t => ticksWhile more fuel t
      | .fault r => .fault r
      | .refused r => .refused r
    else .next s

/-- The dots of a frame (R283), the most ticks a running system needs to the next frame (R306). -/
def frameDots : Nat := 89342

/-- `runUntilFrame()` (R306): one tick, then ticks until the frame-complete pulse; none when halted. -/
def runUntilFrame (s : State) : Out :=
  if s.halted then .next s
  else
    match step s with
    | .next t => ticksWhile (fun u => !u.halted && !u.ppu.frameComplete) (frameDots - 1) t
    | .fault r => .fault r
    | .refused r => .refused r

/-- A "single step" (R309, D45): ticks until `instructions` has increased by one, then until `remaining == 0`; a halted
system stops it. Each part is at most 96 ticks long (log 10). -/
def singleStep (s : State) : Out :=
  match ticksWhile (fun u => !u.halted && u.instructions == s.instructions) 96 s with
  | .next t => ticksWhile (fun u => !u.halted && u.remaining != 0) 96 t
  | .fault r => .fault r
  | .refused r => .refused r

/-- The operations of R309, the single step of D45 and the IRQ_LINE input. -/
inductive Call where
  | reset
  | cycle
  | runUntilFrame
  | singleStep
  | setPc (v : Addr)
  | getPc
  | getCycles
  | getInstructions
  | setButton (port : Nat) (button : Byte) (pressed : Bool)
  | renderBackground
  | renderPatternTable (table palette : Nat)
  | cpuRead (a : Addr)
  | cpuWrite (a : Addr) (v : Byte)
  | ppuRead (a : Addr)
  | ppuWrite (a : Addr) (v : Byte)
  | getFault
  | setIrqLine (asserted : Bool)
deriving DecidableEq, Repr

/-- What a call returns to the caller. -/
inductive Answer where
  | done
  | byte (v : Byte)
  | address (v : Addr)
  | count (n : BitVec 64)
  | image (rows : Image)
  | faults (halted : Bool) (fault : Option Fault) (romWriteSeen : Bool)
deriving DecidableEq, Repr

/-- An outcome with its answer. -/
def answering (answer : Answer) : Out → Host.Outcome (State × Answer) Fault Refusal
  | .next t => .next (t, answer)
  | .fault r => .fault r
  | .refused r => .refused r

/-- The effect and the answer of each operation (R309's table). -/
def call : Call → State → Host.Outcome (State × Answer) Fault Refusal
  | .reset, s => .next (systemReset s, .done)
  | .cycle, s => answering .done (step s)
  | .runUntilFrame, s => answering .done (runUntilFrame s)
  | .singleStep, s => answering .done (singleStep s)
  | .setPc v, s => .next (setPc v s, .done)
  | .getPc, s => .next (s, .address s.pc)
  | .getCycles, s => .next (s, .count s.cycles)
  | .getInstructions, s => .next (s, .count s.instructions)
  | .setButton port button pressed, s => answering .done (setButton port button pressed s)
  | .renderBackground, s => .next (s, .image (renderBackground s))
  | .renderPatternTable table palette, s =>
    match renderPatternTable table palette s with
    | .next img => .next (s, .image img)
    | .fault r => .fault r
    | .refused r => .refused r
  | .cpuRead a, s => .next ((memRead a s).2, .byte (memRead a s).1)
  | .cpuWrite a v, s => .next (memWrite a v s, .done)
  | .ppuRead a, s => .next (s, .byte (ppuRead a s))
  | .ppuWrite a v, s => .next (ppuWrite a v s, .done)
  | .getFault, s => .next (s, .faults s.halted s.fault s.romWriteSeen)
  | .setIrqLine asserted, s => .next (setIrqLine asserted s, .done)

end Sys2Proof.Machine
end

