-- ==== Sys2Proof/Safety.lean ====
section
/-! DEFINITION. What the statements about this machine are said in: the well-formed state that every step keeps, and
the relations that say what an instruction left alone. -/

namespace Sys2Proof.Machine

/-- PRG and CHR are canonical and no longer than their ROMs (spec/10_state.md R37). -/
def Cartridge.wf (c : Cartridge) : Bool := c.prg.wf c.prgBanks.size && c.chr.wf chrSize

/-- The PPU is at a valid position (R28) and PPUSTATUS holds VBL only: bits 4:0 are not stored, sprite-0 hit and
sprite overflow are never set (R32). -/
def Ppu.wf (u : Ppu) : Bool := validPosition u.scanline u.dot && (u.status &&& 0x7F#8) == 0#8

/-- The invariant of the machine: memories canonical and in range (R37), the PPU well-formed, at most 8 cycles owed
(R25), a valid PPU_RESET_POSITION (60_exceptions.md R283), and a halt only with a recorded fault (R39). -/
def State.wf (s : State) : Bool :=
  s.ram.wf ramSize && s.vram.wf vramSize && s.pal.wf palSize && s.cart.wf && s.ppu.wf &&
  decide (s.remaining ≤ 8) && validPosition s.params.resetScanline s.params.resetDot &&
  (!s.halted || s.fault.isSome)

abbrev State.Wf (s : State) : Prop := s.wf = true

/-- Every memory the same: RAM, VRAM, palette RAM and the cartridge. -/
def SameMemories (s t : State) : Prop :=
  t.ram = s.ram ∧ t.vram = s.vram ∧ t.pal = s.pal ∧ t.cart = s.cart

/-- The PPU and the controllers the same. -/
def SameDevices (s t : State) : Prop := t.ppu = s.ppu ∧ t.ctl0 = s.ctl0 ∧ t.ctl1 = s.ctl1

/-- The fault state the same (R39). -/
def SameFaults (s t : State) : Prop :=
  t.halted = s.halted ∧ t.fault = s.fault ∧ t.romWriteSeen = s.romWriteSeen

/-- What no instruction writes: the counters of the clock, the NMI latch, the opcode field, the input line and the
parameters. -/
def SameSystem (s t : State) : Prop :=
  t.cycles = s.cycles ∧ t.master = s.master ∧ t.nmiPending = s.nmiPending ∧ t.opcode = s.opcode ∧
  t.irqLine = s.irqLine ∧ t.params = s.params

/-- An instruction's end: `n` cycles owed, one more instruction counted (40_engine_addressing.md R136, R137). -/
def Owes (n : Nat) (s t : State) : Prop := t.remaining = n ∧ t.instructions = s.instructions + 1#64

/-- Every flag but those listed is the same. -/
def FlagsKept (written : List Flag) (s t : State) : Prop := ∀ f, f ∉ written → getFlag f t.p = getFlag f s.p

/-- Z and N describe a byte (00_scope.md R9). -/
def ShowsZN (v : Byte) (t : State) : Prop := getFlag .z t.p = (v == 0#8) ∧ getFlag .n t.p = v.getLsbD 7

/-- Everything outside the CPU's registers and the system counters the same. -/
def SameOutside (s t : State) : Prop := SameMemories s t ∧ SameDevices s t ∧ SameFaults s t

/-- The registers A, X, Y, SP the same. -/
def SameRegisters (s t : State) : Prop := t.a = s.a ∧ t.x = s.x ∧ t.y = s.y ∧ t.sp = s.sp

/-- An address whose read has no device behind it: RAM, PRG ROM and the stub windows (20_memory.md R79). -/
def plainAddr (a : Addr) : Bool :=
  regionOf a != .ppuRegs && regionOf a != .controller1 && regionOf a != .controller2

/-- Every byte the CPU bus reads outside the device ports is the same. -/
def ReadsSame (s t : State) : Prop := ∀ b, plainAddr b = true → busValue b t = busValue b s

/-- Every byte the CPU bus reads outside the device ports is the same, but for the RAM byte at `a` and its mirrors, which
reads `v`; where `a` is no RAM address, none changes. -/
def ByteStored (a : Addr) (v : Byte) (s t : State) : Prop :=
  ∀ b, plainAddr b = true → busValue b t =
    if regionOf a = .ram ∧ regionOf b = .ram ∧ ramIndex b = ramIndex a then v else busValue b s

/-- RAM after bytes were pushed: the stack-page bytes listed as (SP at the push, byte), the later ones first, and every
other byte the CPU bus reads outside the device ports as before. -/
def StackStored : List (Byte × Byte) → State → State → Prop
  | pushes, s, t => ∀ b, plainAddr b = true → busValue b t =
    match pushes.find? (fun q => regionOf b == .ram && ramIndex b == 256 + q.1.toNat) with
    | some q => q.2
    | none => busValue b s

/-! ### How a form of an instruction is said to complete -/

/-- One form of an instruction that reads a memory or immediate operand, at a state: its opcode byte, the effective
address, the operand, the state after the one bus read of the operand, and the cycles it takes. -/
structure Form where
  i : Instr
  op : Byte
  ea : Addr
  value : Byte
  after : State
  cycles : Nat

/-- A form that reads its operand at the effective address of its mode. -/
def memForm (i : Instr) (op : Byte) (m : ModeResult) (cycles : Nat) (s : State) : Form :=
  ⟨i, op, m.ea, busValue m.ea s, busReadEffect m.ea s, cycles⟩

/-- The same, marked `+` in the table: one more cycle when the index crosses a page (40_engine_addressing.md R134). -/
def pagedForm (i : Instr) (op : Byte) (m : ModeResult) (cycles : Nat) (s : State) : Form :=
  ⟨i, op, m.ea, busValue m.ea s, busReadEffect m.ea s, cycles + if m.crossed then 1 else 0⟩

/-- An immediate form: the operand is the byte before the next instruction. -/
def immForm (i : Instr) (op : Byte) (n : Byte) (s : State) : Form := ⟨i, op, s.pc - 1#16, n, s, 2⟩

/-- The instruction of a form has this opcode byte, completes, reads its operand once, takes its cycles and is counted;
memory, SP, PC, the fault state and the system are as before, and the state it leaves satisfies `P`. -/
def Form.Reads (f : Form) (s : State) (P : State → Prop) : Prop :=
  (encode f.i).head? = some f.op ∧
  ∃ t, exec f.i s = .next t ∧ P t ∧ t.ea = f.ea ∧ t.fetched = f.value ∧ t.pc = s.pc ∧ t.sp = s.sp ∧
    Owes f.cycles s t ∧ SameMemories s t ∧ ReadsSame s t ∧ SameDevices f.after t ∧ SameFaults s t ∧ SameSystem s t

/-- The instruction of a form has this opcode byte, completes, reads its operand once, then writes `r` once at the same
address, takes its cycles and is counted; SP, PC, the cartridge and the system are as before, every byte outside the
stored one reads as before, and the state it leaves satisfies `P`. -/
def Form.Rewrites (f : Form) (r : Byte) (s : State) (P : State → Prop) : Prop :=
  (encode f.i).head? = some f.op ∧
  ∃ t, exec f.i s = .next t ∧ P t ∧ t.ea = f.ea ∧ t.fetched = f.value ∧ t.pc = s.pc ∧ t.sp = s.sp ∧
    Owes f.cycles s t ∧ SameOutside (memWrite f.ea r f.after) t ∧ t.cart = s.cart ∧ SameSystem s t ∧
    (s.ram.wf ramSize = true → ByteStored f.ea r s t)

/-- One form of a store. -/
structure StoreForm where
  i : Instr
  op : Byte
  ea : Addr
  cycles : Nat

def storeForm (i : Instr) (op : Byte) (m : ModeResult) (cycles : Nat) : StoreForm := ⟨i, op, m.ea, cycles⟩

/-- The instruction of a form has this opcode byte, completes, writes `v` once at its effective address, takes its cycles
and is counted; every register, every flag, PC, the cartridge and the system are as before, and every byte outside the
stored one reads as before. -/
def StoreForm.Stores (f : StoreForm) (v : Byte) (s : State) : Prop :=
  (encode f.i).head? = some f.op ∧
  ∃ t, exec f.i s = .next t ∧ t.ea = f.ea ∧ SameRegisters s t ∧ t.p = s.p ∧ t.pc = s.pc ∧ t.fetched = s.fetched ∧
    Owes f.cycles s t ∧ SameOutside (memWrite f.ea v s) t ∧ t.cart = s.cart ∧ SameSystem s t ∧
    (s.ram.wf ramSize = true → ByteStored f.ea v s t)

/-- An instruction without memory operand has this opcode byte and completes; memory, devices, the fault state and the
system are as before, and the state it leaves satisfies `P`. -/
def Implied (i : Instr) (op : Byte) (cycles : Nat) (s : State) (P : State → Prop) : Prop :=
  (encode i).head? = some op ∧
  ∃ t, exec i s = .next t ∧ P t ∧ Owes cycles s t ∧ SameOutside s t ∧ ReadsSame s t ∧ SameSystem s t

/-- The same for an instruction that pushes or pulls: RAM may change by the pushed bytes only. -/
def Stacked (i : Instr) (op : Byte) (cycles : Nat) (pushes : List (Byte × Byte)) (s : State) (P : State → Prop) : Prop :=
  (encode i).head? = some op ∧
  ∃ t, exec i s = .next t ∧ P t ∧ Owes cycles s t ∧ t.vram = s.vram ∧ t.pal = s.pal ∧ t.cart = s.cart ∧
    SameDevices s t ∧ SameFaults s t ∧ SameSystem s t ∧ (pushes = [] → t.ram = s.ram) ∧
    (s.ram.wf ramSize = true → StackStored pushes s t)

/-- The PC and the working fields `fetched` and `ea` the same. -/
def SameWorking (s t : State) : Prop := t.pc = s.pc ∧ t.fetched = s.fetched ∧ t.ea = s.ea

/-- The results of a binary addition of `m` and the carry `c` to `a` (42_arith_logic.md R180): exact sum, carry out of
256, the overflow formula, Z and N of the result; the other flags as in `s`. -/
def Added (a m : Byte) (c : Bool) (s t : State) : Prop :=
  t.a.toNat = (a.toNat + m.toNat + c.toNat) % 256 ∧
  getFlag .c t.p = decide (256 ≤ a.toNat + m.toNat + c.toNat) ∧
  getFlag .v t.p = (((a ^^^ t.a) &&& (m ^^^ t.a) &&& 0x80#8) != 0#8) ∧
  ShowsZN t.a t ∧ FlagsKept [.c, .z, .v, .n] s t

/-- The results of a comparison of `r` with `m` (42_arith_logic.md R181). -/
def Compared (r m : Byte) (s t : State) : Prop :=
  getFlag .c t.p = decide (m.toNat ≤ r.toNat) ∧ ShowsZN (r - m) t ∧ FlagsKept [.c, .z, .n] s t

/-- The result of a left shift or rotate in numbers: bit 7 leaves into C, `low` enters bit 0 (R182). -/
def shiftedLeft (v : Byte) (low : Bool) : Byte := BitVec.ofNat 8 (v.toNat * 2 + low.toNat)

/-- The result of a right shift or rotate in numbers: bit 0 leaves into C, `high` enters bit 7 (R182). -/
def shiftedRight (v : Byte) (high : Bool) : Byte := BitVec.ofNat 8 (v.toNat / 2 + 128 * high.toNat)

/-- The tick ends at an instruction boundary and no instruction began in it: a tick between CPU clocks at a boundary, or
the CPU clock that drains the last owed cycle. -/
def EndsAtBoundary (s : State) : Prop :=
  s.halted = false ∧
  ((s.master.toNat % 3 ≠ 0 ∧ s.remaining = 0) ∨ (s.master.toNat % 3 = 0 ∧ s.remaining = 1))

/-- An NMI is pending, or the PPU dot of this tick requests one: it enters scanline 241 with NMI enabled. -/
def NmiRequested (s : State) : Bool :=
  s.nmiPending || (decide (s.ppu.scanline = 240 ∧ s.ppu.dot = 340) && s.ppu.ctrl.getLsbD 7)

/-- The number of a PPU position in its frame of 89342 dots, from the first dot of scanline -1. -/
def Ppu.framePosition (u : Ppu) : Int := (u.scanline + 1) * 341 + u.dot

/-- `n` master ticks. -/
def ticks : Nat → State → Out
  | 0, s => .next s
  | n + 1, s =>
    match step s with
    | .next t => ticks n t
    | .fault r => .fault r
    | .refused r => .refused r

/-- Bus reads of successive addresses: the bytes, and the state after them. -/
def readSequence : Nat → Addr → State → List Byte × State
  | 0, _, s => ([], s)
  | n + 1, a, s =>
    let rest := readSequence n (a + 1#16) (busReadEffect a s)
    (busValue a s :: rest.1, rest.2)

/-- Reading one address again and again: the values in order. -/
def readAgain : Nat → Addr → State → List Byte
  | 0, _, _ => []
  | n + 1, a, s => busValue a s :: readAgain n a (busReadEffect a s)

/-- The byte of the stack page at a value of SP. -/
def stackByte (k : Byte) (s : State) : Byte := busValue (BitVec.ofNat 16 (256 + k.toNat)) s

/-- What an interrupt entry leaves (60_exceptions.md R261) of the state `u` at the boundary: PC pushed high byte first, then the
status with B = 0 and U = 1, then I set, PC from the vector, `n` cycles owed; not counted as an instruction. -/
def Entered (vector : Addr) (n : Nat) (u t : State) : Prop :=
  t.pc.toNat = (busValue vector u).toNat + 256 * (busValue (vector + 1#16) u).toNat ∧
  t.sp = u.sp - 3#8 ∧ getFlag .i t.p = true ∧ FlagsKept [.i] u t ∧ t.remaining = n ∧
  t.instructions = u.instructions ∧ t.a = u.a ∧ t.x = u.x ∧ t.y = u.y ∧
  t.opcode = u.opcode ∧ t.fetched = u.fetched ∧ t.ea = u.ea ∧
  t.vram = u.vram ∧ t.pal = u.pal ∧ t.cart = u.cart ∧ t.ppu = u.ppu ∧ SameFaults u t ∧
  t.ctl0 = u.ctl0 ∧ t.ctl1 = u.ctl1 ∧ t.irqLine = u.irqLine ∧ t.params = u.params ∧
  (u.ram.wf ramSize = true →
    StackStored [(u.sp - 2#8, (u.p &&& 0xEF#8) ||| 0x20#8), (u.sp - 1#8, loByte u.pc), (u.sp, hiByte u.pc)] u t)

end Sys2Proof.Machine
end

