-- ==== Sys2Proof/Certificates/Slice0/Obligations.lean ====
section
/-! DEFINITION. The statements about this machine. Each says which rule of the spec it formalises; what it says of an
instruction it says for every form of the opcode table, listed in it with its opcode byte and its cycles. -/

section

open Sys2Proof Sys2Proof.Machine


/-- In every addressing form LDA, LDX, LDY or LAX completes: the register named (A and X for LAX) takes the operand, Z
and N describe it, the other flags and registers and every memory byte stay, and the form takes the cycles of its
rule, one more on a page crossing where it is marked +. (R160, R161, R162, R241) -/
def Obligations.LoadsReadTheirOperand : Prop :=
  ((∀ (s : State) (z n : Byte) (w : Addr), ∀ f ∈
      [memForm (.ldaIzx z) 0xA1 (modeIzx z s) 6 s, memForm (.ldaZp0 z) 0xA5 (modeZp0 z) 3 s,
      immForm (.ldaImm n) 0xA9 n s, memForm (.ldaAbs w) 0xAD (modeAbs w) 4 s,
      pagedForm (.ldaIzy z) 0xB1 (modeIzy z s) 5 s, memForm (.ldaZpx z) 0xB5 (modeZpx z s) 4 s,
      pagedForm (.ldaAby w) 0xB9 (modeAby w s) 4 s, pagedForm (.ldaAbx w) 0xBD (modeAbx w s) 4 s],
    f.Reads s fun t => t.a = f.value ∧ t.x = s.x ∧ t.y = s.y ∧ ShowsZN f.value t ∧ FlagsKept [.z, .n] s t) ∧
  (∀ (s : State) (z n : Byte) (w : Addr), ∀ f ∈
      [immForm (.ldxImm n) 0xA2 n s, memForm (.ldxZp0 z) 0xA6 (modeZp0 z) 3 s,
      memForm (.ldxAbs w) 0xAE (modeAbs w) 4 s, memForm (.ldxZpy z) 0xB6 (modeZpy z s) 4 s,
      pagedForm (.ldxAby w) 0xBE (modeAby w s) 4 s],
    f.Reads s fun t => t.x = f.value ∧ t.a = s.a ∧ t.y = s.y ∧ ShowsZN f.value t ∧ FlagsKept [.z, .n] s t) ∧
  (∀ (s : State) (z n : Byte) (w : Addr), ∀ f ∈
      [immForm (.ldyImm n) 0xA0 n s, memForm (.ldyZp0 z) 0xA4 (modeZp0 z) 3 s,
      memForm (.ldyAbs w) 0xAC (modeAbs w) 4 s, memForm (.ldyZpx z) 0xB4 (modeZpx z s) 4 s,
      pagedForm (.ldyAbx w) 0xBC (modeAbx w s) 4 s],
    f.Reads s fun t => t.y = f.value ∧ t.a = s.a ∧ t.x = s.x ∧ ShowsZN f.value t ∧ FlagsKept [.z, .n] s t)) ∧
  ((∀ (s : State) (z : Byte) (w : Addr), ∀ f ∈
      [memForm (.laxIzx z) 0xA3 (modeIzx z s) 6 s, memForm (.laxZp0 z) 0xA7 (modeZp0 z) 3 s,
      memForm (.laxAbs w) 0xAF (modeAbs w) 4 s, pagedForm (.laxIzy z) 0xB3 (modeIzy z s) 5 s,
      memForm (.laxZpy z) 0xB7 (modeZpy z s) 4 s, pagedForm (.laxAby w) 0xBF (modeAby w s) 4 s],
    f.Reads s fun t => t.a = f.value ∧ t.x = f.value ∧ t.y = s.y ∧ ShowsZN f.value t ∧ FlagsKept [.z, .n] s t))

/-- In every form STA stores A, STX stores X, STY stores Y and SAX stores A AND X at the effective address of its
mode, by one bus write; no register and no flag changes, no page-crossing cycle is taken, and every byte outside the
stored one reads as before. (R163, R164, R165, R242) -/
def Obligations.StoresWriteOnlyTheirByte : Prop :=
  (∀ (s : State) (z : Byte) (w : Addr), ∀ f ∈
      [storeForm (.staIzx z) 0x81 (modeIzx z s) 6, storeForm (.staZp0 z) 0x85 (modeZp0 z) 3,
      storeForm (.staAbs w) 0x8D (modeAbs w) 4, storeForm (.staIzy z) 0x91 (modeIzy z s) 6,
      storeForm (.staZpx z) 0x95 (modeZpx z s) 4, storeForm (.staAby w) 0x99 (modeAby w s) 5,
      storeForm (.staAbx w) 0x9D (modeAbx w s) 5],
    f.Stores (s.a) s) ∧
  (∀ (s : State) (z : Byte) (w : Addr), ∀ f ∈
      [storeForm (.stxZp0 z) 0x86 (modeZp0 z) 3, storeForm (.stxAbs w) 0x8E (modeAbs w) 4,
      storeForm (.stxZpy z) 0x96 (modeZpy z s) 4],
    f.Stores (s.x) s) ∧
  (∀ (s : State) (z : Byte) (w : Addr), ∀ f ∈
      [storeForm (.styZp0 z) 0x84 (modeZp0 z) 3, storeForm (.styAbs w) 0x8C (modeAbs w) 4,
      storeForm (.styZpx z) 0x94 (modeZpx z s) 4],
    f.Stores (s.y) s) ∧
  (∀ (s : State) (z : Byte) (w : Addr), ∀ f ∈
      [storeForm (.saxIzx z) 0x83 (modeIzx z s) 6, storeForm (.saxZp0 z) 0x87 (modeZp0 z) 3,
      storeForm (.saxAbs w) 0x8F (modeAbs w) 4, storeForm (.saxZpy z) 0x97 (modeZpy z s) 4],
    f.Stores (s.a &&& s.x) s)

/-- In every form ADC leaves in A the sum of A, the operand and C modulo 256, C the carry out, V by the overflow
formula, Z and N of the result; D is not read; X, Y, SP, the other flags and every memory byte stay. (R180, R183) -/
def Obligations.AdcAddsWithCarry : Prop :=
  (∀ (s : State) (z n : Byte) (w : Addr), ∀ f ∈
      [memForm (.adcIzx z) 0x61 (modeIzx z s) 6 s, memForm (.adcZp0 z) 0x65 (modeZp0 z) 3 s,
      immForm (.adcImm n) 0x69 n s, memForm (.adcAbs w) 0x6D (modeAbs w) 4 s,
      pagedForm (.adcIzy z) 0x71 (modeIzy z s) 5 s, memForm (.adcZpx z) 0x75 (modeZpx z s) 4 s,
      pagedForm (.adcAby w) 0x79 (modeAby w s) 4 s, pagedForm (.adcAbx w) 0x7D (modeAbx w s) 4 s],
    f.Reads s fun t => Added s.a f.value (getFlag .c s.p) s t ∧ t.x = s.x ∧ t.y = s.y)

/-- In every form SBC leaves in A the sum of A, 255 minus the operand, and C modulo 256, with the flags of that
addition; X, Y, SP, the other flags and every memory byte stay. The unofficial $EB form does the same. The clause for
C = 1 is the one R184 derives; that byte $EB is included is the spec's own decision D5. (R184, R249,
92_eei_decisions.md D5) -/
def Obligations.SbcAddsTheInvertedOperand : Prop :=
  (∀ (s : State) (z n : Byte) (w : Addr), ∀ f ∈
      [memForm (.sbcIzx z) 0xE1 (modeIzx z s) 6 s, memForm (.sbcZp0 z) 0xE5 (modeZp0 z) 3 s,
      immForm (.sbcImm n) 0xE9 n s, immForm (.sbcImmEb n) 0xEB n s, memForm (.sbcAbs w) 0xED (modeAbs w) 4 s,
      pagedForm (.sbcIzy z) 0xF1 (modeIzy z s) 5 s, memForm (.sbcZpx z) 0xF5 (modeZpx z s) 4 s,
      pagedForm (.sbcAby w) 0xF9 (modeAby w s) 4 s, pagedForm (.sbcAbx w) 0xFD (modeAbx w s) 4 s],
    f.Reads s fun t => Added s.a (BitVec.ofNat 8 (255 - f.value.toNat)) (getFlag .c s.p) s t ∧ t.x = s.x ∧ t.y = s.y ∧
      (getFlag .c s.p = true → t.a = s.a - f.value ∧ getFlag .c t.p = decide (f.value.toNat ≤ s.a.toNat)))

/-- In every form AND, ORA and EOR leave the bitwise combination of A and the operand in A and set Z and N of it; X,
Y, SP, the other flags and every memory byte stay. (R185, R186, R187) -/
def Obligations.LogicCombinesIntoA : Prop :=
  (∀ (s : State) (z n : Byte) (w : Addr), ∀ f ∈
      [memForm (.andIzx z) 0x21 (modeIzx z s) 6 s, memForm (.andZp0 z) 0x25 (modeZp0 z) 3 s,
      immForm (.andImm n) 0x29 n s, memForm (.andAbs w) 0x2D (modeAbs w) 4 s,
      pagedForm (.andIzy z) 0x31 (modeIzy z s) 5 s, memForm (.andZpx z) 0x35 (modeZpx z s) 4 s,
      pagedForm (.andAby w) 0x39 (modeAby w s) 4 s, pagedForm (.andAbx w) 0x3D (modeAbx w s) 4 s],
    f.Reads s fun t => t.a = s.a &&& f.value ∧ t.x = s.x ∧ t.y = s.y ∧ ShowsZN (s.a &&& f.value) t ∧ FlagsKept [.z, .n] s t) ∧
  (∀ (s : State) (z n : Byte) (w : Addr), ∀ f ∈
      [memForm (.oraIzx z) 0x01 (modeIzx z s) 6 s, memForm (.oraZp0 z) 0x05 (modeZp0 z) 3 s,
      immForm (.oraImm n) 0x09 n s, memForm (.oraAbs w) 0x0D (modeAbs w) 4 s,
      pagedForm (.oraIzy z) 0x11 (modeIzy z s) 5 s, memForm (.oraZpx z) 0x15 (modeZpx z s) 4 s,
      pagedForm (.oraAby w) 0x19 (modeAby w s) 4 s, pagedForm (.oraAbx w) 0x1D (modeAbx w s) 4 s],
    f.Reads s fun t => t.a = s.a ||| f.value ∧ t.x = s.x ∧ t.y = s.y ∧ ShowsZN (s.a ||| f.value) t ∧ FlagsKept [.z, .n] s t) ∧
  (∀ (s : State) (z n : Byte) (w : Addr), ∀ f ∈
      [memForm (.eorIzx z) 0x41 (modeIzx z s) 6 s, memForm (.eorZp0 z) 0x45 (modeZp0 z) 3 s,
      immForm (.eorImm n) 0x49 n s, memForm (.eorAbs w) 0x4D (modeAbs w) 4 s,
      pagedForm (.eorIzy z) 0x51 (modeIzy z s) 5 s, memForm (.eorZpx z) 0x55 (modeZpx z s) 4 s,
      pagedForm (.eorAby w) 0x59 (modeAby w s) 4 s, pagedForm (.eorAbx w) 0x5D (modeAbx w s) 4 s],
    f.Reads s fun t => t.a = s.a ^^^ f.value ∧ t.x = s.x ∧ t.y = s.y ∧ ShowsZN (s.a ^^^ f.value) t ∧ FlagsKept [.z, .n] s t)

/-- In both forms BIT sets Z when A AND the operand is 0, V to bit 6 and N to bit 7 of the operand; no register, no
other flag and no memory byte changes. (R188) -/
def Obligations.BitTestsWithoutWritingA : Prop :=
  (∀ (s : State) (z : Byte) (w : Addr), ∀ f ∈
      [memForm (.bitZp0 z) 0x24 (modeZp0 z) 3 s, memForm (.bitAbs w) 0x2C (modeAbs w) 4 s],
    f.Reads s fun t => t.a = s.a ∧ t.x = s.x ∧ t.y = s.y ∧ getFlag .z t.p = (s.a &&& f.value == 0#8) ∧
      getFlag .v t.p = f.value.getLsbD 6 ∧ getFlag .n t.p = f.value.getLsbD 7 ∧ FlagsKept [.z, .v, .n] s t)

/-- In every form CMP, CPX and CPY set C when the register is at least the operand, unsigned, and Z and N of the
difference; no register, no other flag (V included) and no memory byte changes. (R181, R189, R190, R191) -/
def Obligations.ComparesSetCarryWhenNotBelow : Prop :=
  (∀ (s : State) (z n : Byte) (w : Addr), ∀ f ∈
      [memForm (.cmpIzx z) 0xC1 (modeIzx z s) 6 s, memForm (.cmpZp0 z) 0xC5 (modeZp0 z) 3 s,
      immForm (.cmpImm n) 0xC9 n s, memForm (.cmpAbs w) 0xCD (modeAbs w) 4 s,
      pagedForm (.cmpIzy z) 0xD1 (modeIzy z s) 5 s, memForm (.cmpZpx z) 0xD5 (modeZpx z s) 4 s,
      pagedForm (.cmpAby w) 0xD9 (modeAby w s) 4 s, pagedForm (.cmpAbx w) 0xDD (modeAbx w s) 4 s],
    f.Reads s fun t => Compared s.a f.value s t ∧ t.a = s.a ∧ t.x = s.x ∧ t.y = s.y) ∧
  (∀ (s : State) (z n : Byte) (w : Addr), ∀ f ∈
      [immForm (.cpxImm n) 0xE0 n s, memForm (.cpxZp0 z) 0xE4 (modeZp0 z) 3 s,
      memForm (.cpxAbs w) 0xEC (modeAbs w) 4 s],
    f.Reads s fun t => Compared s.x f.value s t ∧ t.a = s.a ∧ t.x = s.x ∧ t.y = s.y) ∧
  (∀ (s : State) (z n : Byte) (w : Addr), ∀ f ∈
      [immForm (.cpyImm n) 0xC0 n s, memForm (.cpyZp0 z) 0xC4 (modeZp0 z) 3 s,
      memForm (.cpyAbs w) 0xCC (modeAbs w) 4 s],
    f.Reads s fun t => Compared s.y f.value s t ∧ t.a = s.a ∧ t.x = s.x ∧ t.y = s.y)

/-- In every form INC and DEC read the operand once and write it back once plus or minus one modulo 256, and set Z and
N of the result; A, X, Y, SP, the other flags and every byte outside the stored one stay. That no dummy access happens
is the spec's own decision D3. (R192, R193, 92_eei_decisions.md D3) -/
def Obligations.IncDecRewriteTheirByte : Prop :=
  (∀ (s : State) (z : Byte) (w : Addr), ∀ f ∈
      [memForm (.incZp0 z) 0xE6 (modeZp0 z) 5 s, memForm (.incAbs w) 0xEE (modeAbs w) 6 s,
      memForm (.incZpx z) 0xF6 (modeZpx z s) 6 s, memForm (.incAbx w) 0xFE (modeAbx w s) 7 s],
    f.Rewrites (BitVec.ofNat 8 (f.value.toNat + 1)) s fun t => t.a = s.a ∧ t.x = s.x ∧ t.y = s.y ∧
      ShowsZN (BitVec.ofNat 8 (f.value.toNat + 1)) t ∧ FlagsKept [.z, .n] s t) ∧
  (∀ (s : State) (z : Byte) (w : Addr), ∀ f ∈
      [memForm (.decZp0 z) 0xC6 (modeZp0 z) 5 s, memForm (.decAbs w) 0xCE (modeAbs w) 6 s,
      memForm (.decZpx z) 0xD6 (modeZpx z s) 6 s, memForm (.decAbx w) 0xDE (modeAbx w s) 7 s],
    f.Rewrites (BitVec.ofNat 8 (f.value.toNat + 255)) s fun t => t.a = s.a ∧ t.x = s.x ∧ t.y = s.y ∧
      ShowsZN (BitVec.ofNat 8 (f.value.toNat + 255)) t ∧ FlagsKept [.z, .n] s t)

/-- INX, INY, DEX and DEY add or subtract one modulo 256, set Z and N of the result, and change no other register,
flag, memory byte or device. (R194, R195, R196, R197) -/
def Obligations.IndexRegistersStep : Prop :=
  (∀ s : State, Implied .inx 0xE8 2 s fun t => SameWorking s t ∧ t.x = BitVec.ofNat 8 (s.x.toNat + 1) ∧
      t.a = s.a ∧ t.y = s.y ∧ t.sp = s.sp ∧ ShowsZN t.x t ∧ FlagsKept [.z, .n] s t) ∧
  (∀ s : State, Implied .iny 0xC8 2 s fun t => SameWorking s t ∧ t.y = BitVec.ofNat 8 (s.y.toNat + 1) ∧
      t.a = s.a ∧ t.x = s.x ∧ t.sp = s.sp ∧ ShowsZN t.y t ∧ FlagsKept [.z, .n] s t) ∧
  (∀ s : State, Implied .dex 0xCA 2 s fun t => SameWorking s t ∧ t.x = BitVec.ofNat 8 (s.x.toNat + 255) ∧
      t.a = s.a ∧ t.y = s.y ∧ t.sp = s.sp ∧ ShowsZN t.x t ∧ FlagsKept [.z, .n] s t) ∧
  (∀ s : State, Implied .dey 0x88 2 s fun t => SameWorking s t ∧ t.y = BitVec.ofNat 8 (s.y.toNat + 255) ∧
      t.a = s.a ∧ t.x = s.x ∧ t.sp = s.sp ∧ ShowsZN t.y t ∧ FlagsKept [.z, .n] s t)

/-- In every memory form the shift or rotate reads its byte once and writes the result back once: the bit shifted out
goes to C, the bit shifted in is 0 (ASL, LSR) or the old C (ROL, ROR), Z and N describe the result; A, X, Y, SP, the
other flags and every byte outside the stored one stay. That the byte is read once and written once, with no dummy
access, is the spec's own decision D3. (R182, R198, R200, R202, R204, R62, 92_eei_decisions.md D3) -/
def Obligations.ShiftsRewriteTheirByte : Prop :=
  (∀ (s : State) (z : Byte) (w : Addr), ∀ f ∈
      [memForm (.aslZp0 z) 0x06 (modeZp0 z) 5 s, memForm (.aslAbs w) 0x0E (modeAbs w) 6 s,
      memForm (.aslZpx z) 0x16 (modeZpx z s) 6 s, memForm (.aslAbx w) 0x1E (modeAbx w s) 7 s],
    f.Rewrites (shiftedLeft f.value false) s fun t => t.a = s.a ∧ t.x = s.x ∧ t.y = s.y ∧ getFlag .c t.p = f.value.getLsbD 7 ∧
      ShowsZN (shiftedLeft f.value false) t ∧ FlagsKept [.c, .z, .n] s t) ∧
  (∀ (s : State) (z : Byte) (w : Addr), ∀ f ∈
      [memForm (.lsrZp0 z) 0x46 (modeZp0 z) 5 s, memForm (.lsrAbs w) 0x4E (modeAbs w) 6 s,
      memForm (.lsrZpx z) 0x56 (modeZpx z s) 6 s, memForm (.lsrAbx w) 0x5E (modeAbx w s) 7 s],
    f.Rewrites (shiftedRight f.value false) s fun t => t.a = s.a ∧ t.x = s.x ∧ t.y = s.y ∧ getFlag .c t.p = f.value.getLsbD 0 ∧
      ShowsZN (shiftedRight f.value false) t ∧ FlagsKept [.c, .z, .n] s t) ∧
  (∀ (s : State) (z : Byte) (w : Addr), ∀ f ∈
      [memForm (.rolZp0 z) 0x26 (modeZp0 z) 5 s, memForm (.rolAbs w) 0x2E (modeAbs w) 6 s,
      memForm (.rolZpx z) 0x36 (modeZpx z s) 6 s, memForm (.rolAbx w) 0x3E (modeAbx w s) 7 s],
    f.Rewrites (shiftedLeft f.value (getFlag .c s.p)) s fun t => t.a = s.a ∧ t.x = s.x ∧ t.y = s.y ∧ getFlag .c t.p = f.value.getLsbD 7 ∧
      ShowsZN (shiftedLeft f.value (getFlag .c s.p)) t ∧ FlagsKept [.c, .z, .n] s t) ∧
  (∀ (s : State) (z : Byte) (w : Addr), ∀ f ∈
      [memForm (.rorZp0 z) 0x66 (modeZp0 z) 5 s, memForm (.rorAbs w) 0x6E (modeAbs w) 6 s,
      memForm (.rorZpx z) 0x76 (modeZpx z s) 6 s, memForm (.rorAbx w) 0x7E (modeAbx w s) 7 s],
    f.Rewrites (shiftedRight f.value (getFlag .c s.p)) s fun t => t.a = s.a ∧ t.x = s.x ∧ t.y = s.y ∧ getFlag .c t.p = f.value.getLsbD 0 ∧
      ShowsZN (shiftedRight f.value (getFlag .c s.p)) t ∧ FlagsKept [.c, .z, .n] s t)

/-- ASL A, LSR A, ROL A and ROR A replace A by the shifted byte, C takes the bit shifted out, Z and N describe A; no
other register or flag, no memory byte and no device changes. (R199, R201, R203, R205) -/
def Obligations.AccumulatorShifts : Prop :=
  (∀ s : State, Implied .aslAcc 0x0A 2 s fun t => t.a = shiftedLeft s.a false ∧ getFlag .c t.p = s.a.getLsbD 7 ∧ ShowsZN t.a t ∧
      FlagsKept [.c, .z, .n] s t ∧ t.x = s.x ∧ t.y = s.y ∧ t.sp = s.sp ∧ t.pc = s.pc ∧ t.ea = s.ea ∧ t.fetched = s.a) ∧
  (∀ s : State, Implied .lsrAcc 0x4A 2 s fun t => t.a = shiftedRight s.a false ∧ getFlag .c t.p = s.a.getLsbD 0 ∧ ShowsZN t.a t ∧
      FlagsKept [.c, .z, .n] s t ∧ t.x = s.x ∧ t.y = s.y ∧ t.sp = s.sp ∧ t.pc = s.pc ∧ t.ea = s.ea ∧ t.fetched = s.a) ∧
  (∀ s : State, Implied .rolAcc 0x2A 2 s fun t => t.a = shiftedLeft s.a (getFlag .c s.p) ∧ getFlag .c t.p = s.a.getLsbD 7 ∧ ShowsZN t.a t ∧
      FlagsKept [.c, .z, .n] s t ∧ t.x = s.x ∧ t.y = s.y ∧ t.sp = s.sp ∧ t.pc = s.pc ∧ t.ea = s.ea ∧ t.fetched = s.a) ∧
  (∀ s : State, Implied .rorAcc 0x6A 2 s fun t => t.a = shiftedRight s.a (getFlag .c s.p) ∧ getFlag .c t.p = s.a.getLsbD 0 ∧ ShowsZN t.a t ∧
      FlagsKept [.c, .z, .n] s t ∧ t.x = s.x ∧ t.y = s.y ∧ t.sp = s.sp ∧ t.pc = s.pc ∧ t.ea = s.ea ∧ t.fetched = s.a)

/-- Each transfer copies its source into its destination register; all but TXS set Z and N of the byte, TXS changes no
flag; no other register or flag, no memory byte and no device changes. (R166, R167, R168, R169, R170, R171) -/
def Obligations.TransfersCopyRegisters : Prop :=
  (∀ s : State, Implied .tax 0xAA 2 s fun t => SameWorking s t ∧ t.x = s.a ∧ t.a = s.a ∧ t.y = s.y ∧ t.sp = s.sp ∧
      ShowsZN s.a t ∧ FlagsKept [.z, .n] s t) ∧
  (∀ s : State, Implied .tay 0xA8 2 s fun t => SameWorking s t ∧ t.y = s.a ∧ t.a = s.a ∧ t.x = s.x ∧ t.sp = s.sp ∧
      ShowsZN s.a t ∧ FlagsKept [.z, .n] s t) ∧
  (∀ s : State, Implied .tsx 0xBA 2 s fun t => SameWorking s t ∧ t.x = s.sp ∧ t.a = s.a ∧ t.y = s.y ∧ t.sp = s.sp ∧
      ShowsZN s.sp t ∧ FlagsKept [.z, .n] s t) ∧
  (∀ s : State, Implied .txa 0x8A 2 s fun t => SameWorking s t ∧ t.a = s.x ∧ t.x = s.x ∧ t.y = s.y ∧ t.sp = s.sp ∧
      ShowsZN s.x t ∧ FlagsKept [.z, .n] s t) ∧
  (∀ s : State, Implied .txs 0x9A 2 s fun t => SameWorking s t ∧ t.sp = s.x ∧ t.a = s.a ∧ t.x = s.x ∧ t.y = s.y ∧
      t.p = s.p) ∧
  (∀ s : State, Implied .tya 0x98 2 s fun t => SameWorking s t ∧ t.a = s.y ∧ t.x = s.x ∧ t.y = s.y ∧ t.sp = s.sp ∧
      ShowsZN s.y t ∧ FlagsKept [.z, .n] s t)

/-- PHA pushes A and PHP pushes P with bits 4 and 5 set, at the stack address of SP, and SP goes down by one modulo
256; PLA and PLP raise SP by one and take the byte there, into A with Z and N of it, or into P with bits 4 and 5
cleared; no other register or flag changes, and every other byte reads as before. (R172, R173, R174, R175) -/
def Obligations.PushesAndPullsMoveOneByte : Prop :=
  ((∀ s : State, Stacked .pha 0x48 3 [(s.sp, s.a)] s fun t => SameWorking s t ∧ t.sp = s.sp - 1#8 ∧ t.p = s.p ∧
      t.a = s.a ∧ t.x = s.x ∧ t.y = s.y) ∧
  (∀ s : State, Stacked .php 0x08 3 [(s.sp, s.p ||| 0x30#8)] s fun t => SameWorking s t ∧ t.sp = s.sp - 1#8 ∧ t.p = s.p ∧
      t.a = s.a ∧ t.x = s.x ∧ t.y = s.y)) ∧
  ((∀ s : State, Stacked .pla 0x68 4 [] s fun t => SameWorking s t ∧ t.sp = s.sp + 1#8 ∧ t.a = stackByte (s.sp + 1#8) s ∧
      ShowsZN t.a t ∧ FlagsKept [.z, .n] s t ∧ t.x = s.x ∧ t.y = s.y) ∧
  (∀ s : State, Stacked .plp 0x28 4 [] s fun t => SameWorking s t ∧ t.sp = s.sp + 1#8 ∧
      t.p = stackByte (s.sp + 1#8) s &&& 0xCF#8 ∧ t.a = s.a ∧ t.x = s.x ∧ t.y = s.y))

/-- Each of the eight branches, for every displacement -128..127, is encoded as its opcode byte and the displacement
byte, leaves the target (next PC plus displacement modulo 65536) in ea, and jumps to it when its condition holds: 2
cycles not taken, 3 taken within the page of the next instruction, 4 taken into another page; no register, flag,
memory byte or device changes. That the page is compared with that of the next instruction is the spec's own decision
D14. (R135, R146, R210, R211, R212, R213, R214, R215, R216, R217, R218, 92_eei_decisions.md D14) -/
def Obligations.BranchesGoToTheirTarget : Prop :=
  ∀ (s : State) (d : Int), -128 ≤ d → d ≤ 127 → ∀ q ∈
      ([(.bcc d, 0x90, getFlag .c s.p == false), (.bcs d, 0xB0, getFlag .c s.p == true),
      (.beq d, 0xF0, getFlag .z s.p == true), (.bmi d, 0x30, getFlag .n s.p == true),
      (.bne d, 0xD0, getFlag .z s.p == false), (.bpl d, 0x10, getFlag .n s.p == false),
      (.bvc d, 0x50, getFlag .v s.p == false), (.bvs d, 0x70, getFlag .v s.p == true)] : List (Instr × Byte × Bool)),
    encode q.1 = [q.2.1, BitVec.ofInt 8 d] ∧
    ∃ t, exec q.1 s = .next t ∧ (t.ea.toNat : Int) = (s.pc.toNat + d) % 65536 ∧
      t.pc = (if q.2.2 then t.ea else s.pc) ∧
      Owes (if q.2.2 then (if t.ea.toNat / 256 = s.pc.toNat / 256 then 3 else 4) else 2) s t ∧
      SameRegisters s t ∧ t.p = s.p ∧ t.fetched = s.fetched ∧ SameOutside s t ∧ ReadsSame s t ∧ SameSystem s t

/-- JMP w takes 3 cycles and leaves PC = ea = w and nothing else changed; JMP (w) takes 5, reads the low byte of the
target at w and the high byte at w plus 1, or at the first address of the same page when the low byte of w is $FF, and
changes nothing but PC, ea and what those two reads change. (R150, R219, R220) -/
def Obligations.JumpsLoadThePc : Prop :=
  (∀ (s : State) (w : Addr), encode (.jmpAbs w) = [0x4C, loByte w, hiByte w] ∧
    exec (.jmpAbs w) s = .next { s with pc := w, ea := w, remaining := 3, instructions := s.instructions + 1#64 }) ∧
  (∀ (s : State) (w : Addr), encode (.jmpInd w) = [0x6C, loByte w, hiByte w] ∧
    ∃ (h : Addr) (t : State), h = (if w.toNat % 256 = 255 then w - 255#16 else w + 1#16) ∧ exec (.jmpInd w) s = .next t ∧
      t.pc.toNat = (busValue w s).toNat + 256 * (busValue h (busReadEffect w s)).toNat ∧ t.ea = t.pc ∧
      Owes 5 s t ∧ SameRegisters s t ∧ t.p = s.p ∧ t.fetched = s.fetched ∧ SameMemories s t ∧ ReadsSame s t ∧
      SameDevices (busReadEffect h (busReadEffect w s)) t ∧ SameFaults s t ∧ SameSystem s t)

/-- JSR pushes the next PC minus one, high byte first, and leaves PC = ea = its operand; RTS pulls low byte then high
byte and leaves PC at that address plus one modulo 65536; SP moves by two; no other register, no flag and no other
byte changes. (R221, R222) -/
def Obligations.SubroutineCallAndReturn : Prop :=
  (∀ (s : State) (w : Addr), (encode (.jsr w)).tail = [loByte w, hiByte w] ∧
    Stacked (.jsr w) 0x20 6 [(s.sp - 1#8, loByte (s.pc - 1#16)), (s.sp, hiByte (s.pc - 1#16))] s fun t =>
      t.pc = w ∧ t.ea = w ∧ t.fetched = s.fetched ∧ t.sp = s.sp - 2#8 ∧ t.p = s.p ∧ t.a = s.a ∧ t.x = s.x ∧ t.y = s.y) ∧
  (∀ s : State, Stacked .rts 0x60 6 [] s fun t =>
      t.pc.toNat = ((stackByte (s.sp + 1#8) s).toNat + 256 * (stackByte (s.sp + 2#8) s).toNat + 1) % 65536 ∧
      t.ea = s.ea ∧ t.fetched = s.fetched ∧ t.sp = s.sp + 2#8 ∧ t.p = s.p ∧ t.a = s.a ∧ t.x = s.x ∧ t.y = s.y)

/-- BRK pushes the address two past its opcode, high byte first, then P with bits 4 and 5 set, sets I and loads PC
from $FFFE/$FFFF, whatever I held, in 7 cycles, counted as an instruction; RTI pulls the status, stored with bits 4
and 5 cleared, then PC low, then PC high, unadjusted, in 6 cycles; SP moves by three; no other register or flag and no
other byte changes. That BRK is never masked and that RTI clears bits 4 and 5 are the spec's own decisions D9 and D10.
(R224, R223, 92_eei_decisions.md D9, 92_eei_decisions.md D10) -/
def Obligations.BrkEntersAndRtiReturns : Prop :=
  (∀ s : State, Stacked .brk 0x00 7
      [(s.sp - 2#8, s.p ||| 0x30#8), (s.sp - 1#8, loByte (s.pc + 1#16)), (s.sp, hiByte (s.pc + 1#16))] s fun t =>
    t.pc.toNat = (busValue 0xFFFE#16 s).toNat + 256 * (busValue 0xFFFF#16 s).toNat ∧ t.sp = s.sp - 3#8 ∧
    getFlag .i t.p = true ∧ FlagsKept [.i] s t ∧ t.a = s.a ∧ t.x = s.x ∧ t.y = s.y ∧ t.fetched = s.fetched ∧ t.ea = s.ea) ∧
  (∀ s : State, Stacked .rti 0x40 6 [] s fun t =>
    t.p = stackByte (s.sp + 1#8) s &&& 0xCF#8 ∧
    t.pc.toNat = (stackByte (s.sp + 2#8) s).toNat + 256 * (stackByte (s.sp + 3#8) s).toNat ∧ t.sp = s.sp + 3#8 ∧
    t.a = s.a ∧ t.x = s.x ∧ t.y = s.y ∧ t.fetched = s.fetched ∧ t.ea = s.ea)

/-- Each writes its one flag to 0 or 1; every other flag, every register, every memory byte and every device stays; 2
cycles. When an IRQ is accepted after CLI, R227's corner case, is the statement IrqEntryOnlyWithIClear. (R225, R226,
R227, R228, R229, R230, R231) -/
def Obligations.FlagInstructionsWriteOneFlag : Prop :=
  (∀ s : State, Implied .clc 0x18 2 s fun t => SameWorking s t ∧ SameRegisters s t ∧ getFlag .c t.p = false ∧ FlagsKept [.c] s t) ∧
  (∀ s : State, Implied .cld 0xD8 2 s fun t => SameWorking s t ∧ SameRegisters s t ∧ getFlag .d t.p = false ∧ FlagsKept [.d] s t) ∧
  (∀ s : State, Implied .cli 0x58 2 s fun t => SameWorking s t ∧ SameRegisters s t ∧ getFlag .i t.p = false ∧ FlagsKept [.i] s t) ∧
  (∀ s : State, Implied .clv 0xB8 2 s fun t => SameWorking s t ∧ SameRegisters s t ∧ getFlag .v t.p = false ∧ FlagsKept [.v] s t) ∧
  (∀ s : State, Implied .sec 0x38 2 s fun t => SameWorking s t ∧ SameRegisters s t ∧ getFlag .c t.p = true ∧ FlagsKept [.c] s t) ∧
  (∀ s : State, Implied .sed 0xF8 2 s fun t => SameWorking s t ∧ SameRegisters s t ∧ getFlag .d t.p = true ∧ FlagsKept [.d] s t) ∧
  (∀ s : State, Implied .sei 0x78 2 s fun t => SameWorking s t ∧ SameRegisters s t ∧ getFlag .i t.p = true ∧ FlagsKept [.i] s t)

/-- NOP $EA and the six unofficial one-byte NOPs change nothing but the cycles owed and the instruction count; the
NOPs with an operand also leave their effective address in ea, do not read it, and take one more cycle when an indexed
form crosses a page. That ea is not read and that the one-byte unofficial forms are included are the spec's own
decisions D3 and D5. (R232, R250, R251, 92_eei_decisions.md D3, 92_eei_decisions.md D5) -/
def Obligations.NoOperationsChangeNothing : Prop :=
  (∀ s : State, ∀ q ∈
      ([(.nopImp1a, 0x1A), (.nopImp3a, 0x3A), (.nopImp5a, 0x5A), (.nopImp7a, 0x7A), (.nopImpda, 0xDA),
      (.nop, 0xEA), (.nopImpfa, 0xFA)] : List (Instr × Byte)),
    encode q.1 = [q.2] ∧ exec q.1 s = .next { s with remaining := 2, instructions := s.instructions + 1#64 }) ∧
  (∀ (s : State) (z n : Byte) (w : Addr), ∀ f ∈
      [storeForm (.nopZp004 z) 0x04 (modeZp0 z) 3, storeForm (.nopAbs0c w) 0x0C (modeAbs w) 4,
      storeForm (.nopZpx14 z) 0x14 (modeZpx z s) 4,
      storeForm (.nopAbx1c w) 0x1C (modeAbx w s) (4 + if (modeAbx w s).crossed then 1 else 0),
      storeForm (.nopZpx34 z) 0x34 (modeZpx z s) 4,
      storeForm (.nopAbx3c w) 0x3C (modeAbx w s) (4 + if (modeAbx w s).crossed then 1 else 0),
      storeForm (.nopZp044 z) 0x44 (modeZp0 z) 3, storeForm (.nopZpx54 z) 0x54 (modeZpx z s) 4,
      storeForm (.nopAbx5c w) 0x5C (modeAbx w s) (4 + if (modeAbx w s).crossed then 1 else 0),
      storeForm (.nopZp064 z) 0x64 (modeZp0 z) 3, storeForm (.nopZpx74 z) 0x74 (modeZpx z s) 4,
      storeForm (.nopAbx7c w) 0x7C (modeAbx w s) (4 + if (modeAbx w s).crossed then 1 else 0),
      storeForm (.nopImm80 n) 0x80 (modeImm s) 2, storeForm (.nopImm82 n) 0x82 (modeImm s) 2,
      storeForm (.nopImm89 n) 0x89 (modeImm s) 2, storeForm (.nopImmc2 n) 0xC2 (modeImm s) 2,
      storeForm (.nopZpxd4 z) 0xD4 (modeZpx z s) 4,
      storeForm (.nopAbxdc w) 0xDC (modeAbx w s) (4 + if (modeAbx w s).crossed then 1 else 0),
      storeForm (.nopImme2 n) 0xE2 (modeImm s) 2, storeForm (.nopZpxf4 z) 0xF4 (modeZpx z s) 4,
      storeForm (.nopAbxfc w) 0xFC (modeAbx w s) (4 + if (modeAbx w s).crossed then 1 else 0)],
    (encode f.i).head? = some f.op ∧
    exec f.i s = .next { s with ea := f.ea, remaining := f.cycles, instructions := s.instructions + 1#64 })

/-- In every form DCP writes the byte minus one and compares A with it; ISC writes the byte plus one and subtracts it
from A with the borrow of C; X, Y, SP, the flags not named and every byte outside the stored one stay, A too for DCP.
The spec marks these rules as general knowledge; that the byte is read once and written once is its own decision D3.
(R243, R244, 92_eei_decisions.md D3) -/
def Obligations.DcpAndIscRewriteThenCompareOrSubtract : Prop :=
  (∀ (s : State) (z : Byte) (w : Addr), ∀ f ∈
      [memForm (.dcpIzx z) 0xC3 (modeIzx z s) 8 s, memForm (.dcpZp0 z) 0xC7 (modeZp0 z) 5 s,
      memForm (.dcpAbs w) 0xCF (modeAbs w) 6 s, memForm (.dcpIzy z) 0xD3 (modeIzy z s) 8 s,
      memForm (.dcpZpx z) 0xD7 (modeZpx z s) 6 s, memForm (.dcpAby w) 0xDB (modeAby w s) 7 s,
      memForm (.dcpAbx w) 0xDF (modeAbx w s) 7 s],
    f.Rewrites (BitVec.ofNat 8 (f.value.toNat + 255)) s fun t => Compared s.a (BitVec.ofNat 8 (f.value.toNat + 255)) s t ∧ t.a = s.a ∧ t.x = s.x ∧ t.y = s.y) ∧
  (∀ (s : State) (z : Byte) (w : Addr), ∀ f ∈
      [memForm (.iscIzx z) 0xE3 (modeIzx z s) 8 s, memForm (.iscZp0 z) 0xE7 (modeZp0 z) 5 s,
      memForm (.iscAbs w) 0xEF (modeAbs w) 6 s, memForm (.iscIzy z) 0xF3 (modeIzy z s) 8 s,
      memForm (.iscZpx z) 0xF7 (modeZpx z s) 6 s, memForm (.iscAby w) 0xFB (modeAby w s) 7 s,
      memForm (.iscAbx w) 0xFF (modeAbx w s) 7 s],
    f.Rewrites (BitVec.ofNat 8 (f.value.toNat + 1)) s fun t => Added s.a (BitVec.ofNat 8 (255 - (f.value.toNat + 1) % 256)) (getFlag .c s.p) s t ∧ t.x = s.x ∧ t.y = s.y)

/-- In every form SLO, RLA, SRE and RRA write the shifted or rotated byte back once and combine it with A: OR, AND,
EOR with Z and N of A and C the bit shifted out; RRA adds it with the bit rotated out as carry in; X, Y, SP, the flags
not named and every byte outside the stored one stay. The spec marks these rules as general knowledge; that the byte
is read once and written once is its own decision D3. (R245, R246, R247, R248, 92_eei_decisions.md D3) -/
def Obligations.ShiftCombinationsRewriteThenCombine : Prop :=
  (∀ (s : State) (z : Byte) (w : Addr), ∀ f ∈
      [memForm (.sloIzx z) 0x03 (modeIzx z s) 8 s, memForm (.sloZp0 z) 0x07 (modeZp0 z) 5 s,
      memForm (.sloAbs w) 0x0F (modeAbs w) 6 s, memForm (.sloIzy z) 0x13 (modeIzy z s) 8 s,
      memForm (.sloZpx z) 0x17 (modeZpx z s) 6 s, memForm (.sloAby w) 0x1B (modeAby w s) 7 s,
      memForm (.sloAbx w) 0x1F (modeAbx w s) 7 s],
    f.Rewrites ((shiftedLeft f.value false)) s fun t => t.a = s.a ||| (shiftedLeft f.value false) ∧ t.x = s.x ∧ t.y = s.y ∧
      getFlag .c t.p = f.value.getLsbD 7 ∧ ShowsZN t.a t ∧ FlagsKept [.c, .z, .n] s t) ∧
  (∀ (s : State) (z : Byte) (w : Addr), ∀ f ∈
      [memForm (.rlaIzx z) 0x23 (modeIzx z s) 8 s, memForm (.rlaZp0 z) 0x27 (modeZp0 z) 5 s,
      memForm (.rlaAbs w) 0x2F (modeAbs w) 6 s, memForm (.rlaIzy z) 0x33 (modeIzy z s) 8 s,
      memForm (.rlaZpx z) 0x37 (modeZpx z s) 6 s, memForm (.rlaAby w) 0x3B (modeAby w s) 7 s,
      memForm (.rlaAbx w) 0x3F (modeAbx w s) 7 s],
    f.Rewrites ((shiftedLeft f.value (getFlag .c s.p))) s fun t => t.a = s.a &&& (shiftedLeft f.value (getFlag .c s.p)) ∧ t.x = s.x ∧ t.y = s.y ∧
      getFlag .c t.p = f.value.getLsbD 7 ∧ ShowsZN t.a t ∧ FlagsKept [.c, .z, .n] s t) ∧
  (∀ (s : State) (z : Byte) (w : Addr), ∀ f ∈
      [memForm (.sreIzx z) 0x43 (modeIzx z s) 8 s, memForm (.sreZp0 z) 0x47 (modeZp0 z) 5 s,
      memForm (.sreAbs w) 0x4F (modeAbs w) 6 s, memForm (.sreIzy z) 0x53 (modeIzy z s) 8 s,
      memForm (.sreZpx z) 0x57 (modeZpx z s) 6 s, memForm (.sreAby w) 0x5B (modeAby w s) 7 s,
      memForm (.sreAbx w) 0x5F (modeAbx w s) 7 s],
    f.Rewrites ((shiftedRight f.value false)) s fun t => t.a = s.a ^^^ (shiftedRight f.value false) ∧ t.x = s.x ∧ t.y = s.y ∧
      getFlag .c t.p = f.value.getLsbD 0 ∧ ShowsZN t.a t ∧ FlagsKept [.c, .z, .n] s t) ∧
  (∀ (s : State) (z : Byte) (w : Addr), ∀ f ∈
      [memForm (.rraIzx z) 0x63 (modeIzx z s) 8 s, memForm (.rraZp0 z) 0x67 (modeZp0 z) 5 s,
      memForm (.rraAbs w) 0x6F (modeAbs w) 6 s, memForm (.rraIzy z) 0x73 (modeIzy z s) 8 s,
      memForm (.rraZpx z) 0x77 (modeZpx z s) 6 s, memForm (.rraAby w) 0x7B (modeAby w s) 7 s,
      memForm (.rraAbx w) 0x7F (modeAbx w s) 7 s],
    f.Rewrites (shiftedRight f.value (getFlag .c s.p)) s fun t => Added s.a (shiftedRight f.value (getFlag .c s.p)) (f.value.getLsbD 0) s t ∧ t.x = s.x ∧ t.y = s.y)

/-- Each of the 25 illegal bytes records IllegalOpcode with its address and byte if no fault is recorded yet; under
policy halt the system halts and nothing else changes; under policy nop it is a one-byte, two-cycle no-operation that
is counted. The two policies and the lasting halt are the spec's own decisions D7 and D31. (R252, R253,
92_eei_decisions.md D7, 92_eei_decisions.md D31) -/
def Obligations.IllegalBytesRecordTheFault : Prop :=
  ∀ s : State, ∀ q ∈
      ([(.xxx02, 0x02), (.xxx0b, 0x0B), (.xxx12, 0x12), (.xxx22, 0x22), (.xxx2b, 0x2B), (.xxx32, 0x32),
      (.xxx42, 0x42), (.xxx4b, 0x4B), (.xxx52, 0x52), (.xxx62, 0x62), (.xxx6b, 0x6B), (.xxx72, 0x72),
      (.xxx8b, 0x8B), (.xxx92, 0x92), (.xxx93, 0x93), (.xxx9b, 0x9B), (.xxx9c, 0x9C), (.xxx9e, 0x9E),
      (.xxx9f, 0x9F), (.xxxab, 0xAB), (.xxxb2, 0xB2), (.xxxbb, 0xBB), (.xxxcb, 0xCB), (.xxxd2, 0xD2),
      (.xxxf2, 0xF2)] : List (Instr × Byte)),
    encode q.1 = [q.2] ∧ ∃ f, f = some (s.fault.getD (Fault.illegalOpcode (s.pc - 1#16) q.2)) ∧
    (s.params.illegalOpcode = .halt → ∃ t, exec q.1 s = .next t ∧ t = { s with fault := f, halted := true } ∧
      step t = .next t ∧ (systemReset t).halted = true ∧ (systemReset t).fault = f) ∧
    (s.params.illegalOpcode = .nop → exec q.1 s = .next
      { s with fault := f, remaining := 2, instructions := s.instructions + 1#64 })

/-- For every well-formed instruction, at every operand value, and whatever bytes follow, the decoder reads exactly
that instruction and leaves exactly those bytes. (R110, R111, R119) -/
def Obligations.DecodeOfEncodeIsTheInstruction : Prop :=
  ∀ i : Instr, i.WellFormed → ∀ rest : List Byte, decode (encode i ++ rest) = .instr i rest

/-- If the decoder answers an instruction and a rest, the bytes are that instruction's encoding followed by the rest,
and the instruction is well formed: no two byte sequences mean the same instruction and no bit is dropped. That each
of the 256 bytes is an instruction of its own, so that two bytes that behave alike (R249, R250) are two instructions,
is the model's choice, log 12 (DESIGN CHOICE). (R110, R111) -/
def Obligations.DecodedBytesAreTheEncoding : Prop :=
  ∀ (bytes : List Byte) (i : Instr) (rest : List Byte), decode bytes = .instr i rest →
    bytes = encode i ++ rest ∧ i.WellFormed

/-- For every opcode byte the length is 1, 2 or 3, the decoder answers an instruction exactly when that many bytes are
there, and the instruction it answers has that length whatever the bytes after the first. R119 marks this as derived
from R110 and R111. (R119) -/
def Obligations.DecoderIsTotalOnOpcodes : Prop :=
  ∀ (op : Byte), 1 ≤ instrLength op ∧ instrLength op ≤ 3 ∧ ∀ rest : List Byte,
    (instrLength op ≤ rest.length + 1 →
      ∃ i, decode (op :: rest) = .instr i ((op :: rest).drop (instrLength op)) ∧ (encode i).length = instrLength op) ∧
    (rest.length + 1 < instrLength op → decode (op :: rest) = .truncated op)

/-- The table has 256 entries; the unofficial and the illegal bytes are the ones the spec lists, 80 and 25 of them,
and all others, 151, are official; the illegal entries are exactly those with mnemonic XXX. That $EB and the six one-
byte NOPs are among the unofficial bytes is the spec's own decision D5. (R113, R115, R116, R117, 92_eei_decisions.md
D5) -/
def Obligations.OpcodeMapPartition : Prop :=
  opTable.length = 256 ∧
  (∀ op : Byte, ((entryOf op).kind = .illegal ↔ op ∈ ([0x02, 0x0B, 0x12, 0x22, 0x2B, 0x32, 0x42, 0x4B, 0x52, 0x62, 0x6B, 0x72, 0x8B, 0x92, 0x93, 0x9B, 0x9C,
      0x9E, 0x9F, 0xAB, 0xB2, 0xBB, 0xCB, 0xD2, 0xF2] : List Byte)) ∧
    ((entryOf op).kind = .illegal ↔ (entryOf op).mnemonic = .xxx) ∧
    ((entryOf op).kind = .unofficial ↔ op ∈ ([0x03, 0x04, 0x07, 0x0C, 0x0F, 0x13, 0x14, 0x17, 0x1A, 0x1B, 0x1C, 0x1F, 0x23, 0x27, 0x2F, 0x33, 0x34,
      0x37, 0x3A, 0x3B, 0x3C, 0x3F, 0x43, 0x44, 0x47, 0x4F, 0x53, 0x54, 0x57, 0x5A, 0x5B, 0x5C, 0x5F, 0x63,
      0x64, 0x67, 0x6F, 0x73, 0x74, 0x77, 0x7A, 0x7B, 0x7C, 0x7F, 0x80, 0x82, 0x83, 0x87, 0x89, 0x8F, 0x97,
      0xA3, 0xA7, 0xAF, 0xB3, 0xB7, 0xBF, 0xC2, 0xC3, 0xC7, 0xCF, 0xD3, 0xD4, 0xD7, 0xDA, 0xDB, 0xDC, 0xDF,
      0xE2, 0xE3, 0xE7, 0xEB, 0xEF, 0xF3, 0xF4, 0xF7, 0xFA, 0xFB, 0xFC, 0xFF] : List Byte))) ∧
  (opTable.countP fun e => e.kind == .official) = 151 ∧
  (opTable.countP fun e => e.kind == .unofficial) = 80 ∧
  (opTable.countP fun e => e.kind == .illegal) = 25

/-- JMP $8019 is 4C 19 80, STA $0001 is 8D 01 00, LDA #$80 is A9 80, BNE with FC is a displacement of -4, ASL A is 0A,
JMP ($10FF) is 6C FF 10, SLO $10 is 07 10, and byte $02 is illegal. (R60, R111, R114) -/
def Obligations.SpecWordsDecode : Prop :=
  decode [0x4C, 0x19, 0x80] = .instr (.jmpAbs 0x8019) [] ∧ decode [0x8D, 0x01, 0x00] = .instr (.staAbs 0x0001) [] ∧
  decode [0xA9, 0x80] = .instr (.ldaImm 0x80) [] ∧ decode [0xD0, 0xFC] = .instr (.bne (-4)) [] ∧
  decode [0x0A] = .instr .aslAcc [] ∧ decode [0x6C, 0xFF, 0x10] = .instr (.jmpInd 0x10FF) [] ∧
  decode [0x07, 0x10] = .instr (.sloZp0 0x10) [] ∧ decode [0x02] = .instr .xxx02 []

/-- On a CPU tick at an instruction boundary of a system that is not halted, if the bytes at PC are behind no device
port and decode to an instruction i of n bytes, the step runs exec of i on the state after the PPU dot with PC past
the n bytes and the opcode byte in its working field, then counts one clock (unless that instruction halted the
system) and one master tick. That CPU ticks are the multiples of 3 is the spec's own decision D1, that the clock of a
halting instruction is not counted its decision D6; that exec runs on the state after the whole fetch is the model's
reading, log 8 (DEDUCED). (R130, R132, R300, R301, 92_eei_decisions.md D1, 92_eei_decisions.md D6) -/
def Obligations.StepRunsDecodedInstruction : Prop :=
  ∀ (s : State) (i : Instr) (rest : List Byte), s.halted = false → s.remaining = 0 → s.master.toNat % 3 = 0 →
    decode [busValue s.pc s, busValue (s.pc + 1#16) s, busValue (s.pc + 2#16) s] = .instr i rest →
    (∀ k < (encode i).length, plainAddr (s.pc + BitVec.ofNat 16 k) = true) →
    ∀ t, exec i { ppuTick s with pc := s.pc + BitVec.ofNat 16 (encode i).length, opcode := busValue s.pc s } = .next t →
    step s = .next (if t.halted then { t with master := s.master + 1#64 }
      else { t with remaining := t.remaining - 1, cycles := s.cycles + 1#64, master := s.master + 1#64 })

/-- From any address the fetch makes one bus read per byte in rising addresses modulo 65536, each seeing the effects
of the one before, the bytes decode to the instruction run, and PC ends past it; the operand byte of a NOP in mode IMM
is stepped over without a bus read. The wrap of PC is the spec's own decision D13 and the single operand read D3 and
D4; that the fetch itself reads an immediate, and that the operand byte of an IMM NOP is stepped over, is the model's
reading, log 8 (DEDUCED). (R21, R133, R138, R142, R153, R251, 92_eei_decisions.md D3, 92_eei_decisions.md D4,
92_eei_decisions.md D13) -/
def Obligations.FetchReadsTheBytesInOrder : Prop :=
  ∀ s : State, let op := busValue s.pc s
    let n := instrLength op
    if op ∈ ([0x80, 0x82, 0x89, 0xC2, 0xE2] : List Byte) then
      (fetchInstr s).2 = { busReadEffect s.pc s with pc := s.pc + 2#16, opcode := op } ∧
      ∃ b, decode [op, b] = .instr (fetchInstr s).1 []
    else
      (fetchInstr s).2 = { (readSequence n s.pc s).2 with pc := s.pc + BitVec.ofNat 16 n, opcode := op } ∧
      decode (readSequence n s.pc s).1 = .instr (fetchInstr s).1 []

/-- From any state at all one master tick answers a next state, never a fault or a refusal as outcome; once halted, a
tick changes nothing. That a halt is the only state that stops and that it lasts are the spec's own decisions D33 and
D31; that a fault is recorded in the state and never the outcome of a step is the model's reading, log 7 (DEDUCED).
(R39, R271, R300, 92_eei_decisions.md D31, 92_eei_decisions.md D33) -/
def Obligations.EveryTickAnswersNext : Prop :=
  ∀ s : State, (∃ t, step s = .next t) ∧ (s.halted = true → step s = .next s ∧ (systemReset s).halted = true)

/-- A tick of a running system whose master count is no multiple of 3 leaves cycles and remaining alone; one whose
master count is a multiple of 3, while at least two cycles are owed, lowers remaining by one and counts one cycle.
Neither begins an instruction or reaches a boundary: every register, flag, memory byte, working field, controller, the
fault state, the instruction count, the IRQ line and the parameters stay; the PPU and the NMI request are those of the
PPU dot. That the CPU clocks on ticks 0, 3, 6, ... is the spec's own decision D1. (R130, R132, R301,
92_eei_decisions.md D1) -/
def Obligations.ClocksDrainOwedCycles : Prop :=
  ∀ s : State, s.halted = false →
    ((s.master.toNat % 3 ≠ 0 ∧ s.remaining ≠ 0) ∨ (s.master.toNat % 3 = 0 ∧ 2 ≤ s.remaining)) →
    ∃ t, step s = .next t ∧ SameRegisters s t ∧ t.p = s.p ∧ SameWorking s t ∧ t.opcode = s.opcode ∧ SameMemories s t ∧
      SameFaults s t ∧ t.ctl0 = s.ctl0 ∧ t.ctl1 = s.ctl1 ∧ t.instructions = s.instructions ∧
      t.irqLine = s.irqLine ∧ t.params = s.params ∧ t.ppu = (ppuTick s).ppu ∧
      t.master = s.master + 1#64 ∧ t.nmiPending = NmiRequested s ∧
      t.remaining = s.remaining - (if s.master.toNat % 3 = 0 then 1 else 0) ∧
      t.cycles = s.cycles + (if s.master.toNat % 3 = 0 then 1#64 else 0#64)

/-- In numbers: ZP0, ZPX and ZPY give an address in page 0; ABS, ABX and ABY give the operand plus the index modulo
65536; IZX adds X before and IZY adds Y after reading a pointer whose two bytes both come from page 0; the page-
crossing signal is raised exactly when bits 15:8 change, by ABX, ABY and IZY only. The page-0 pointer and the wrap
modulo 65536 are the spec's own decisions D12 and D13. (R134, R138, R139, R146, R148, R149, R151, R152,
92_eei_decisions.md D12, 92_eei_decisions.md D13) -/
def Obligations.AddressArithmeticWraps : Prop :=
  ∀ (s : State) (z : Byte) (w : Addr),
    ((modeZp0 z).ea.toNat = z.toNat ∧ (modeZp0 z).crossed = false) ∧
    ((modeZpx z s).ea.toNat = (z.toNat + s.x.toNat) % 256 ∧ (modeZpx z s).crossed = false) ∧
    ((modeZpy z s).ea.toNat = (z.toNat + s.y.toNat) % 256 ∧ (modeZpy z s).crossed = false) ∧
    ((modeAbs w).ea = w ∧ (modeAbs w).crossed = false) ∧
    ((modeAbx w s).ea.toNat = (w.toNat + s.x.toNat) % 65536 ∧
      (modeAbx w s).crossed = decide ((modeAbx w s).ea.toNat / 256 ≠ w.toNat / 256)) ∧
    ((modeAby w s).ea.toNat = (w.toNat + s.y.toNat) % 65536 ∧
      (modeAby w s).crossed = decide ((modeAby w s).ea.toNat / 256 ≠ w.toNat / 256)) ∧
    ((modeIzx z s).ea.toNat = (s.ram.read ((z.toNat + s.x.toNat) % 256)).toNat +
        256 * (s.ram.read ((z.toNat + s.x.toNat + 1) % 256)).toNat ∧ (modeIzx z s).crossed = false) ∧
    (∃ base, base = (s.ram.read z.toNat).toNat + 256 * (s.ram.read ((z.toNat + 1) % 256)).toNat ∧
      (modeIzy z s).ea.toNat = (base + s.y.toNat) % 65536 ∧
      (modeIzy z s).crossed = decide ((modeIzy z s).ea.toNat / 256 ≠ base / 256)) ∧
    (∀ d : Int, ((branchTarget d s).toNat : Int) = (s.pc.toNat + d) % 65536)

/-- ADC with C = 0 then SBC of the same operand with C = 1 restores A; SBC with C = 1 leaves C = (A at least M), as
CMP does; V is set exactly when A and the operand have the same sign bit and the result the other; ROL then ROR
restores A and C; with C = 0, ASL is ROL and LSR is ROR; Z and N describe what setZN was given. R207 marks these laws
as derived from R180, R181 and R182. (R207) -/
def Obligations.ArithmeticLaws : Prop :=
  (∀ (s : State) (m : Byte), ∃ t u, exec (.adcImm m) (setFlag .c false s) = .next t ∧
    exec (.sbcImm m) (setFlag .c true t) = .next u ∧ u.a = s.a) ∧
  (∀ (s : State) (m : Byte), getFlag .c s.p = true → ∃ t u, exec (.sbcImm m) s = .next t ∧ exec (.cmpImm m) s = .next u ∧
    getFlag .c t.p = decide (m.toNat ≤ s.a.toNat) ∧ getFlag .c u.p = getFlag .c t.p) ∧
  (∀ (s : State) (m : Byte), ∃ t, exec (.adcImm m) s = .next t ∧
    (getFlag .v t.p = true ↔ s.a.getLsbD 7 = m.getLsbD 7 ∧ t.a.getLsbD 7 ≠ s.a.getLsbD 7)) ∧
  (∀ s : State, ∃ t u, exec .rolAcc s = .next t ∧ exec .rorAcc t = .next u ∧ u.a = s.a ∧
    getFlag .c u.p = getFlag .c s.p) ∧
  (∀ s : State, getFlag .c s.p = false → exec .aslAcc s = exec .rolAcc s ∧ exec .lsrAcc s = exec .rorAcc s) ∧
  (∀ (s : State) (v : Byte), ShowsZN v (setZN v s))

/-- On a canonical RAM, RTS right after JSR gives back PC and SP, PLA after PHA gives back A and SP, PLP after PHP
gives back P without bits 4 and 5, and RTI after an interrupt entry gives back PC, SP and P without bits 4 and 5, for
every stack pointer, wrap included. That RTI clears bits 4 and 5 and that SP wraps are the spec's own decisions D10
and D40. (R22, R24, R222, R269, 92_eei_decisions.md D10, 92_eei_decisions.md D40) -/
def Obligations.StackRoundTrips : Prop :=
  ∀ s : State, s.ram.wf ramSize = true →
    (∀ w, ∃ t u, exec (.jsr w) s = .next t ∧ exec .rts t = .next u ∧ u.pc = s.pc ∧ u.sp = s.sp) ∧
    (∃ t u, exec .pha s = .next t ∧ exec .pla (setA 0#8 t) = .next u ∧ u.a = s.a ∧ u.sp = s.sp) ∧
    (∃ t u, exec .php s = .next t ∧ exec .plp (setP 0#8 t) = .next u ∧ u.p = s.p &&& 0xCF#8 ∧ u.sp = s.sp) ∧
    (∃ u, exec .rti (interruptEntry irqVector 7 s) = .next u ∧ u.pc = s.pc ∧ u.sp = s.sp ∧ u.p = s.p &&& 0xCF#8)

/-- When a tick ends at an instruction boundary with an NMI pending or requested in that tick, it pushes PC and the
status with B = 0 and U = 1, sets I, loads PC from $FFFA/$FFFB, owes 8 cycles, and clears the request; no other
register and no other byte changes. That the boundary is looked for at the end of every tick, and the NMI before the
IRQ, are the spec's own decisions D2 and D36. (R261, R302, R263, 92_eei_decisions.md D2, 92_eei_decisions.md D36) -/
def Obligations.NmiEntry : Prop :=
  ∀ s : State, EndsAtBoundary s → NmiRequested s = true → ∃ t, step s = .next t ∧ Entered 0xFFFA#16 8 (ppuTick s) t ∧
    t.nmiPending = false ∧ t.master = s.master + 1#64 ∧
    t.cycles = s.cycles + (if s.master.toNat % 3 = 0 then 1#64 else 0#64)

/-- When a tick ends at a boundary with no NMI requested, an asserted line enters through $FFFE in 7 cycles if I is
clear; if I is set or the line is not asserted nothing is entered, nothing is recorded, and registers, memory and the
boundary stay. The end of every tick as the place of the check and the level-sensitive line are the spec's own
decisions D2 and D11. (R262, R302, 92_eei_decisions.md D2, 92_eei_decisions.md D11) -/
def Obligations.IrqEntryOnlyWithIClear : Prop :=
  ∀ s : State, EndsAtBoundary s → NmiRequested s = false → ∃ t, step s = .next t ∧
    t.nmiPending = false ∧ t.master = s.master + 1#64 ∧
    t.cycles = s.cycles + (if s.master.toNat % 3 = 0 then 1#64 else 0#64) ∧
    (s.irqLine = true → getFlag .i s.p = false → Entered 0xFFFE#16 7 (ppuTick s) t) ∧
    (s.irqLine = false ∨ getFlag .i s.p = true →
      t.remaining = 0 ∧ SameRegisters s t ∧ t.p = s.p ∧ SameWorking s t ∧ t.opcode = s.opcode ∧ SameMemories s t ∧
      SameFaults s t ∧ t.ppu = (ppuTick s).ppu ∧ t.ctl0 = s.ctl0 ∧ t.ctl1 = s.ctl1 ∧ t.instructions = s.instructions)

/-- A pending NMI is taken only by a tick that ends at an instruction boundary. A tick of a running system that drains
and leaves cycles owed keeps the NMI request and the registers, flags, PC, working fields, memories and instruction
count, whatever the IRQ line is. A tick that executes an instruction keeps the request too, owes at least one cycle
afterwards unless it halted, and leaves PC, every register and flag, the working fields, the memories and the devices
as the instruction left them, so no NMI and no IRQ was entered after it. The place of the check and the level-
sensitive IRQ line are the spec's own decisions D2 and D11; that the instruction runs on the state after its whole
fetch is log 8 (DEDUCED). (R131, R265, R302, 92_eei_decisions.md D2, 92_eei_decisions.md D11) -/
def Obligations.InterruptsOnlyAtBoundaries : Prop :=
  ∀ s t : State, s.halted = false → step s = .next t →
    (s.nmiPending = true → t.nmiPending = false → EndsAtBoundary s) ∧
    ((s.master.toNat % 3 ≠ 0 ∧ s.remaining ≠ 0) ∨ (s.master.toNat % 3 = 0 ∧ 2 ≤ s.remaining) →
      t.nmiPending = NmiRequested s ∧ 1 ≤ t.remaining ∧ SameRegisters s t ∧ t.p = s.p ∧ SameWorking s t ∧
      SameMemories s t ∧ t.instructions = s.instructions) ∧
    (s.master.toNat % 3 = 0 → s.remaining = 0 →
      t.nmiPending = NmiRequested s ∧
      (t.halted = false → 1 ≤ t.remaining ∧ t.instructions = s.instructions + 1#64) ∧
      ∃ u, exec (fetchInstr (ppuTick s)).1 (fetchInstr (ppuTick s)).2 = .next u ∧ SameRegisters u t ∧ t.p = u.p ∧
        SameWorking u t ∧ SameMemories u t ∧ SameDevices u t ∧ SameFaults u t)

/-- One PPU tick from a valid position: on the dot that enters scanline 241 bit 7 of PPUSTATUS is set and, if PPUCTRL
bit 7 is set, the NMI request; on the dot that enters scanline -1 bits 7 to 5 are cleared, frame-complete is set and
the frame counter steps; on every other dot only the position changes and frame-complete is cleared. The dot of the
events, the one-tick pulse, the absence of a late NMI and the frame counter's width are the spec's own decisions D16,
D17, D18 and D30. (R281, R282, R284, R285, R286, 92_eei_decisions.md D16, 92_eei_decisions.md D17, 92_eei_decisions.md
D18, 92_eei_decisions.md D30) -/
def Obligations.PpuEventsOfATick : Prop :=
  ∀ s : State, validPosition s.ppu.scanline s.ppu.dot = true →
    (s.ppu.scanline = 240 ∧ s.ppu.dot = 340 → ppuTick s = { s with
      ppu := { s.ppu with scanline := 241, dot := 0, frameComplete := false, status := s.ppu.status ||| 0x80#8 }
      nmiPending := s.nmiPending || s.ppu.ctrl.getLsbD 7 }) ∧
    (s.ppu.scanline = 260 ∧ s.ppu.dot = 340 → ppuTick s = { s with
      ppu := { s.ppu with scanline := -1, dot := 0, frameComplete := true, status := s.ppu.status &&& 0x1F#8
                          frameCount := s.ppu.frameCount + 1#64 } }) ∧
    (¬ (s.ppu.dot = 340 ∧ (s.ppu.scanline = 240 ∨ s.ppu.scanline = 260)) → ppuTick s = { s with
      ppu := { s.ppu with frameComplete := false
                          scanline := if s.ppu.dot = 340 then s.ppu.scanline + 1 else s.ppu.scanline
                          dot := if s.ppu.dot = 340 then 0 else s.ppu.dot + 1 } })

/-- From a well-formed running state a tick, whatever instruction it runs, moves the position one dot on modulo 262 x
341, keeps it valid, and leaves frame-complete set exactly when it has entered the first dot of scanline -1, where the
frame counter steps; a reset position outside the valid ones is refused at construction. The refusal of an invalid
reset position, the dot of the event, the one-tick pulse and the frame counter's width are the spec's own decisions
D15, D16, D17 and D30. (R281, R283, R285, R286, 92_eei_decisions.md D15, 92_eei_decisions.md D16, 92_eei_decisions.md
D17, 92_eei_decisions.md D30) -/
def Obligations.FramePositionAdvances : Prop :=
  (∀ s t : State, s.Wf → s.halted = false → step s = .next t →
    t.ppu.framePosition = (s.ppu.framePosition + 1) % 89342 ∧ validPosition t.ppu.scanline t.ppu.dot = true ∧
    (t.ppu.frameComplete = true ↔ t.ppu.framePosition = 0) ∧
    t.ppu.frameCount = s.ppu.frameCount + (if t.ppu.framePosition = 0 then 1#64 else 0#64)) ∧
  (∀ (img : CartridgeImage) (params : Params),
    (validPosition params.resetScanline params.resetDot = true ↔ -1 ≤ params.resetScanline ∧ params.resetScanline ≤ 260 ∧
      params.resetDot ≤ 340) ∧
    (validPosition params.resetScanline params.resetDot = false → ∃ r, construct img params = .refused r))

/-- From a well-formed running state runUntilFrame completes; it is n master ticks, 1 <= n <= 89342, none of the
earlier ones ended with the pulse or halted, and the last ended with the frame-complete pulse or with a halting fault;
on a halted system it runs no tick. The bound is the one R306 derives from R283; the pulse and the halted case are the
spec's own decisions D17 and D44; that the loop is a total function of at most 89342 ticks is log 10 (DEDUCED). (R283,
R306, 92_eei_decisions.md D17, 92_eei_decisions.md D44) -/
def Obligations.RunUntilFrameEndsAtThePulse : Prop :=
  (∀ s : State, s.halted = true → runUntilFrame s = .next s) ∧
  (∀ s : State, s.Wf → s.halted = false → ∃ n t, 1 ≤ n ∧ n ≤ 89342 ∧ runUntilFrame s = .next t ∧ ticks n s = .next t ∧
    (t.ppu.frameComplete = true ∨ t.halted = true) ∧
    ∀ m u, 1 ≤ m → m < n → ticks m s = .next u → u.ppu.frameComplete = false ∧ u.halted = false)

/-- If the memories are canonical and in range, the PPU position valid and its status register without the bits that
are never set, at most 8 cycles owed, the reset position valid and a halt recorded with its fault, then so after a
master tick of any kind. (R25, R28, R32, R37, R39) -/
def Obligations.StepKeepsWellFormed : Prop :=
  ∀ s t : State, s.Wf → step s = .next t → t.Wf

/-- Reset, runUntilFrame, the single step, setPC, setButton, the bus operations, the readers and the IRQ line keep the
invariant of StepKeepsWellFormed. (R309) -/
def Obligations.HostCallsKeepWellFormed : Prop :=
  ∀ (c : Call) (s t : State) (ans : Answer), s.Wf → call c s = .next (t, ans) → t.Wf

/-- State.reset and the state of every accepted construction meet the invariant of StepKeepsWellFormed, before and
after the system reset (State.reset rests on the blank cartridge, the model's choice, log 2). (R37, R40) -/
def Obligations.ResetIsWellFormed : Prop :=
  State.reset.Wf ∧ ∀ (img : CartridgeImage) (params : Params) (s : State), construct img params = .next s →
    s.Wf ∧ (systemReset s).Wf

/-- While the 64-bit master counter does not wrap and the system has not halted, a tick of any kind keeps cycles equal
to the ceiling of master / 3; it holds after reset. R358 marks this law as derived; the CPU phase it rests on is the
spec's own decision D1. (R358, R301, 92_eei_decisions.md D1) -/
def Obligations.CyclesAreACeilingOfMaster : Prop :=
  ((systemReset State.reset).cycles.toNat = ((systemReset State.reset).master.toNat + 2) / 3) ∧
  ∀ s t : State, step s = .next t → s.master.toNat + 1 < 2 ^ 64 →
    (s.halted = false → s.cycles.toNat = (s.master.toNat + 2) / 3) →
    t.halted = false → t.cycles.toNat = (t.master.toNat + 2) / 3

/-- Whatever instruction a master tick runs, PRG, CHR, the bank count, the mirroring, the parameters, the IRQ line and
the pressed buttons stay; a recorded fault, a halt and the ROM-write bit stay. That a recorded fault, a halt and the
ROM-write bit last is the spec's own decisions D7, D8 and D31; that the IRQ line is an input no tick changes is the
model's choice, log 4 (DESIGN CHOICE), and that the parameters stay its reading, log 3 (DEDUCED). (R36, R39, R72, R86,
92_eei_decisions.md D7, 92_eei_decisions.md D8, 92_eei_decisions.md D31) -/
def Obligations.TicksNeverWriteTheCartridge : Prop :=
  ∀ s t : State, step s = .next t → t.cart = s.cart ∧ t.params = s.params ∧ t.irqLine = s.irqLine ∧
    t.ctl0.buttons = s.ctl0.buttons ∧ t.ctl1.buttons = s.ctl1.buttons ∧ (∀ f, s.fault = some f → t.fault = some f) ∧
    (s.halted = true → t.halted = true) ∧ (s.romWriteSeen = true → t.romWriteSeen = true)

/-- In numbers: below $2000 RAM at the address modulo 2048; $2000-$3FFF the PPU register of the address modulo 8;
$4016 reads and shifts controller 1 and a write strobes both; $4017 reads and shifts controller 2 and ignores writes;
the other stubs up to $7FFF read 0 and ignore writes; from $8000 PRG ROM at the address modulo 32768 or 16384, and a
write raises RomWrite. The writes of $4017, the upper bits of a controller read and the stub windows are the spec's
own decisions D22 and D37. (R73, 92_eei_decisions.md D22, 92_eei_decisions.md D37) -/
def Obligations.CpuBusDecoder : Prop :=
  ∀ (s : State) (a : Addr) (v : Byte),
    (a.toNat < 0x2000 → memRead a s = (s.ram.read (a.toNat % 2048), s) ∧
      memWrite a v s = { s with ram := s.ram.write (a.toNat % 2048) v }) ∧
    (0x2000 ≤ a.toNat ∧ a.toNat < 0x4000 →
      memRead a s = (ppuRegValue (ppuRegOf (BitVec.ofNat 16 (a.toNat % 8))) s, ppuRegReadEffect (ppuRegOf (BitVec.ofNat 16 (a.toNat % 8))) s) ∧
      memWrite a v s = ppuRegWrite (ppuRegOf (BitVec.ofNat 16 (a.toNat % 8))) v s) ∧
    (a.toNat = 0x4016 → memRead a s = (s.ctl0.shift &&& 1#8, { s with ctl0 := { s.ctl0 with shift := s.ctl0.shift >>> 1 } }) ∧
      memWrite a v s = { s with ctl0 := { s.ctl0 with shift := s.ctl0.buttons }, ctl1 := { s.ctl1 with shift := s.ctl1.buttons } }) ∧
    (a.toNat = 0x4017 → memRead a s = (s.ctl1.shift &&& 1#8, { s with ctl1 := { s.ctl1 with shift := s.ctl1.shift >>> 1 } }) ∧
      memWrite a v s = s) ∧
    (0x4000 ≤ a.toNat ∧ a.toNat < 0x8000 ∧ a.toNat ≠ 0x4016 ∧ a.toNat ≠ 0x4017 → memRead a s = (0#8, s) ∧ memWrite a v s = s) ∧
    (0x8000 ≤ a.toNat → memRead a s = (s.cart.prg.read (a.toNat % (match s.cart.prgBanks with | .one => 16384 | .two => 32768)), s) ∧
      memWrite a v s = raiseRomWrite .cpu a v s)

/-- On a canonical RAM, after a write below $2000 the address and its mirrors modulo 2048 read the byte and every
other RAM address what it read before; a RAM write never changes what an address from $2000 up reads, the device ports
included; a write from $2000 up never changes what an address that is no device port reads; and a write to a stub, to
$4017 or to ROM changes what no address at all reads, the written one included. R76 marks this law as derived from R73
and R72. (R76) -/
def Obligations.RamReadAfterWrite : Prop :=
  (∀ (s : State) (a b : Addr) (v : Byte), s.ram.wf ramSize = true → a.toNat < 0x2000 → b.toNat < 0x2000 →
    busValue b (memWrite a v s) = if b.toNat % 2048 = a.toNat % 2048 then v else busValue b s) ∧
  (∀ (s : State) (a b : Addr) (v : Byte), a.toNat < 0x2000 → 0x2000 ≤ b.toNat → busValue b (memWrite a v s) = busValue b s) ∧
  (∀ (s : State) (a b : Addr) (v : Byte), 0x2000 ≤ a.toNat → plainAddr b = true → busValue b (memWrite a v s) = busValue b s) ∧
  (∀ (s : State) (a b : Addr) (v : Byte), 0x4000 ≤ a.toNat → a.toNat ≠ 0x4016 → busValue b (memWrite a v s) = busValue b s)

/-- A CPU-bus read of any other address leaves the state as it is. A read of $2002 or a mirror changes PPUSTATUS and
the write toggle w only, of $2007 or a mirror the read buffer and v only, of $4016 the shift register of controller 1
only, of $4017 that of controller 2 only. A write to a stub or to an ignored PPU register changes nothing, no write
changes a CPU register or the cartridge, and a PPU-bus read of the host changes nothing. R79 marks part of this as
derived; that reads of write-only PPU offsets change nothing is the spec's own decision D19, that a host bus operation
is an ordinary access its decision D28. (R79, R287, 92_eei_decisions.md D19, 92_eei_decisions.md D28) -/
def Obligations.ReadsChangeOnlyDevices : Prop :=
  (∀ (s : State) (a : Addr), ¬ (0x2000 ≤ a.toNat ∧ a.toNat < 0x4000 ∧ (a.toNat % 8 = 2 ∨ a.toNat % 8 = 7)) →
    a.toNat ≠ 0x4016 → a.toNat ≠ 0x4017 → (memRead a s).2 = s) ∧
  (∀ (s : State) (a : Addr), 0x2000 ≤ a.toNat → a.toNat < 0x4000 →
    (a.toNat % 8 = 2 → ∃ st w, (memRead a s).2 = { s with ppu := { s.ppu with status := st, w := w } }) ∧
    (a.toNat % 8 = 7 → ∃ b v, (memRead a s).2 = { s with ppu := { s.ppu with buffer := b, v := v } })) ∧
  (∀ (s : State) (a : Addr),
    (a.toNat = 0x4016 → ∃ k, (memRead a s).2 = { s with ctl0 := { s.ctl0 with shift := k } }) ∧
    (a.toNat = 0x4017 → ∃ k, (memRead a s).2 = { s with ctl1 := { s.ctl1 with shift := k } })) ∧
  (∀ (s : State) (a : Addr) (v : Byte), (0x4000 ≤ a.toNat ∧ a.toNat < 0x8000 ∧ a.toNat ≠ 0x4016) ∨
      (0x2000 ≤ a.toNat ∧ a.toNat < 0x4000 ∧ (a.toNat % 8 = 2 ∨ a.toNat % 8 = 3 ∨ a.toNat % 8 = 4)) → memWrite a v s = s) ∧
  (∀ (s : State) (a : Addr) (v : Byte), SameRegisters s (memWrite a v s) ∧ (memWrite a v s).p = s.p ∧
    (memWrite a v s).pc = s.pc ∧ (memWrite a v s).cart = s.cart) ∧
  (∀ (s : State) (a : Addr), ∃ ans, call (.ppuRead a) s = .next (s, ans))

/-- A CPU-bus write from $8000 and a PPU-bus write below $2000 leave PRG and CHR alone; under policy ignore only the
sticky bit is set; under policy fault the first fault is kept or RomWrite with its bus, address and value recorded,
and the system halts. The policies and the lasting halt are the spec's own decisions D8 and D31, the 14-bit PPU bus
its decision D20; that the recorded PPU address is the one after that mask is log 19 (DEDUCED). (R72, R77, R267,
92_eei_decisions.md D8, 92_eei_decisions.md D20, 92_eei_decisions.md D31) -/
def Obligations.RomWritesFollowThePolicy : Prop :=
  ∀ (s : State) (a : Addr) (v : Byte),
    (0x8000 ≤ a.toNat →
      (s.params.romWrite = .ignore → memWrite a v s = { s with romWriteSeen := true }) ∧
      (s.params.romWrite = .fault → memWrite a v s =
        { s with fault := some (s.fault.getD (.romWrite .cpu a v)), halted := true })) ∧
    (a.toNat % 16384 < 0x2000 →
      (s.params.romWrite = .ignore → ppuWrite a v s = { s with romWriteSeen := true }) ∧
      (s.params.romWrite = .fault → ppuWrite a v s =
        { s with fault := some (s.fault.getD (.romWrite .ppu (BitVec.ofNat 16 (a.toNat % 16384)) v)), halted := true })) ∧
    (s.halted = true → step s = .next s) ∧
    (∀ sp : Byte, regionOf (stackAddr sp) = .ram)

/-- In numbers, for a PPU-bus address taken modulo 16384: bit 11 (horizontal) or bit 10 (vertical) of a nametable
address selects the KiB; a palette address reads the entry of its low five bits, $10, $14, $18 and $1C folded onto
$00, $04, $08 and $0C; on canonical memories a byte written to $2000-$3EFF or $3F00-$3FFF, all eight bits of it, reads
back at its aliases, and every other address of the whole PPU bus reads as before: a nametable write leaves palette
and pattern bytes alone, a palette write nametable and pattern bytes. R64 derives the index; the 14-bit PPU bus and
the eight stored bits are the spec's own decisions D20 and D23. (R64, R65, R77, 92_eei_decisions.md D20,
92_eei_decisions.md D23) -/
def Obligations.VramAndPaletteAliases : Prop :=
  (∀ (s : State) (a b : Addr) (v : Byte), s.vram.wf vramSize = true → 0x2000 ≤ a.toNat % 16384 → a.toNat % 16384 < 0x3F00 →
    ∃ f : Nat → Nat, f = (fun n => n % 1024 + 1024 * (match s.cart.mirror with | .horizontal => n / 2048 % 2 | .vertical => n / 1024 % 2)) ∧
      ppuRead a s = s.vram.read (f a.toNat) ∧
      ppuRead b (ppuWrite a v s) =
        if 0x2000 ≤ b.toNat % 16384 ∧ b.toNat % 16384 < 0x3F00 ∧ f b.toNat = f a.toNat then v else ppuRead b s) ∧
  (∀ (s : State) (a b : Addr) (v : Byte), s.pal.wf palSize = true → 0x3F00 ≤ a.toNat % 16384 →
    ∃ f : Nat → Nat, f = (fun n => if n % 32 / 16 = 1 ∧ n % 4 = 0 then n % 16 else n % 32) ∧
      ppuRead a s = s.pal.read (f a.toNat) ∧
      ppuRead b (ppuWrite a v s) = if 0x3F00 ≤ b.toNat % 16384 ∧ f b.toNat = f a.toNat then v else ppuRead b s)

/-- A read of $2002 or a mirror returns bits 7:5 of the status and bits 4:0 of the read buffer, with VBL as it was,
then clears VBL and w and nothing else, a pending NMI included. Writes to offsets 2, 3 and 4 change nothing, reads of
offsets 0, 1, 3, 4, 5 and 6 return 0 and change nothing, and from a well-formed state sprite-0 hit and overflow never
show. That offsets 0, 1, 3, 5 and 6 read 0 and change nothing is the spec's own decision D19; that the sprite flags
never show is R32's derivation. (R32, R287, R289, R295, 92_eei_decisions.md D19) -/
def Obligations.PpuStatusReadAndStubs : Prop :=
  (∀ (s : State) (a : Addr), 0x2000 ≤ a.toNat → a.toNat < 0x4000 → a.toNat % 8 = 2 →
    (memRead a s).1.toNat = s.ppu.status.toNat / 32 * 32 + s.ppu.buffer.toNat % 32 ∧
    (memRead a s).2 = { s with ppu := { s.ppu with status := BitVec.ofNat 8 (s.ppu.status.toNat % 128), w := false } }) ∧
  (∀ (s : State) (a : Addr) (d : Byte), 0x2000 ≤ a.toNat → a.toNat < 0x4000 →
    (a.toNat % 8 = 2 ∨ a.toNat % 8 = 3 ∨ a.toNat % 8 = 4 → memWrite a d s = s) ∧
    (a.toNat % 8 ≠ 2 → a.toNat % 8 ≠ 7 → memRead a s = (0#8, s)) ∧
    (a.toNat % 8 = 2 → s.Wf → (memRead a s).1.getLsbD 6 = false ∧ (memRead a s).1.getLsbD 5 = false))

/-- A read of $2007 or a mirror returns the old buffer, or the fresh byte from the palette range, refills the buffer
with the byte at v modulo 16384 and steps v by 1 or 32 modulo 32768; a write writes the byte through the PPU bus at
that address and steps v the same way, after a ROM write too. The widths of v and of the bus and the buffer after a
palette read are the spec's own decisions D20 and D43. (R292, R293, 92_eei_decisions.md D20, 92_eei_decisions.md D43)
-/
def Obligations.PpuDataAccess : Prop :=
  ∀ (s : State) (a : Addr) (d : Byte), 0x2000 ≤ a.toNat → a.toNat < 0x4000 → a.toNat % 8 = 7 →
    ∃ (next : BitVec 15) (at_ : Addr), next.toNat = (s.ppu.v.toNat + (if s.ppu.ctrl.getLsbD 2 then 32 else 1)) % 32768 ∧
      at_.toNat = s.ppu.v.toNat % 16384 ∧
      (memRead a s).1 = (if 0x3F00 ≤ s.ppu.v.toNat % 16384 then ppuRead at_ s else s.ppu.buffer) ∧
      (memRead a s).2 = { s with ppu := { s.ppu with buffer := ppuRead at_ s, v := next } } ∧
      memWrite a d s = { ppuWrite at_ d s with ppu := { s.ppu with v := next } }

/-- PPUCTRL stores its byte and copies bits 1:0 into t bits 11:10; PPUMASK stores its byte; the first PPUSCROLL write
sets fine X and coarse X, the second fine Y and coarse Y; the first PPUADDR write sets t bits 13:8 and clears bit 14,
the second the low byte and copies t into v; the toggle w flips, a PPUCTRL or PPUMASK write leaves it; nothing else
changes, the NMI request included. The layout of t and v is the spec's own decision D21. (R288, R290, R291, R294,
92_eei_decisions.md D21) -/
def Obligations.PpuControlScrollAddressWrites : Prop :=
  ∀ (s : State) (a : Addr) (d : Byte), 0x2000 ≤ a.toNat → a.toNat < 0x4000 →
    ∃ t' : BitVec 15,
    (a.toNat % 8 = 0 → memWrite a d s = { s with ppu := { s.ppu with ctrl := d, t := t' } } ∧
      t'.toNat = s.ppu.t.toNat / 4096 * 4096 + d.toNat % 4 * 1024 + s.ppu.t.toNat % 1024) ∧
    (a.toNat % 8 = 1 → memWrite a d s = { s with ppu := { s.ppu with mask := d } }) ∧
    (a.toNat % 8 = 5 → s.ppu.w = false →
      memWrite a d s = { s with ppu := { s.ppu with x := BitVec.ofNat 3 d.toNat, t := t', w := true } } ∧
      t'.toNat = s.ppu.t.toNat / 32 * 32 + d.toNat / 8) ∧
    (a.toNat % 8 = 5 → s.ppu.w = true → memWrite a d s = { s with ppu := { s.ppu with t := t', w := false } } ∧
      t'.toNat = d.toNat % 8 * 4096 + s.ppu.t.toNat / 1024 % 4 * 1024 + d.toNat / 8 * 32 + s.ppu.t.toNat % 32) ∧
    (a.toNat % 8 = 6 → s.ppu.w = false → memWrite a d s = { s with ppu := { s.ppu with t := t', w := true } } ∧
      t'.toNat = d.toNat % 64 * 256 + s.ppu.t.toNat % 256) ∧
    (a.toNat % 8 = 6 → s.ppu.w = true → memWrite a d s = { s with ppu := { s.ppu with t := t', v := t', w := false } } ∧
      t'.toNat = s.ppu.t.toNat / 256 * 256 + d.toNat)

/-- A write of any value to $4016 snapshots both controllers; n reads of $4016 or $4017 then return bit k of the
snapshot at read k, 0 from the ninth read on; a write to $4017 changes nothing. For ports 0 and 1 and the eight masks
setButton sets or clears that bit of the buttons and nothing else; another port or mask is refused. The strobe, the
upper bits, the ports and the refusals are the spec's own decisions D22 and D42. (R303, R304, R305,
92_eei_decisions.md D22, 92_eei_decisions.md D42) -/
def Obligations.ControllersStrobeShiftAndSetButton : Prop :=
  (∀ (s : State) (v : Byte) (n : Nat),
    memWrite 0x4017#16 v s = s ∧
    readAgain n 0x4016#16 (memWrite 0x4016#16 v s) = (List.range n).map (fun k => BitVec.ofNat 8 (s.ctl0.buttons.getLsbD k).toNat) ∧
    readAgain n 0x4017#16 (memWrite 0x4016#16 v s) = (List.range n).map (fun k => BitVec.ofNat 8 (s.ctl1.buttons.getLsbD k).toNat)) ∧
  (∀ (s : State) (port : Nat) (button : Byte) (pressed : Bool),
    (port ≤ 1 → (∃ k < 8, button = 1#8 <<< k) → ∃ buttons : Byte,
      (∀ k < 8, buttons.getLsbD k = if button = 1#8 <<< k then pressed
        else (if port = 0 then s.ctl0 else s.ctl1).buttons.getLsbD k) ∧
      setButton port button pressed s = .next (if port = 0 then { s with ctl0 := { s.ctl0 with buttons := buttons } }
        else { s with ctl1 := { s.ctl1 with buttons := buttons } })) ∧
    (¬ (port ≤ 1 ∧ ∃ k < 8, button = 1#8 <<< k) → ∃ r, setButton port button pressed s = .refused r))

/-- For every tile, either table, and every pixel: the palette index is bit 7-x of CHR byte base + tile*16 + y plus
twice bit 7-x of the byte eight further. The colour of entry e of palette p is NTSC_PALETTE at the low six bits of the
palette byte at $3F00 + 4p + e. renderPatternTable returns 128 rows of 128 pixels, pixel (x, y) of tile i where the
tile order puts it, and changes no state; an argument out of range is refused. The six bits of the lookup, the layout
of the image and the open colour table are the spec's own decisions D23, D25 and D26 (the table is a free value, log
5). (R296, R298, R299, 92_eei_decisions.md D23, 92_eei_decisions.md D25, 92_eei_decisions.md D26) -/
def Obligations.TilesAndPatternTableImage : Prop :=
  (∀ (s : State) (p e : Nat), p < 8 → e < 4 →
    colour p e s = Config.ntscPalette (BitVec.ofNat 6 (ppuRead (BitVec.ofNat 16 (0x3F00 + 4 * p + e)) s).toNat)) ∧
  (∀ (s : State) (table : Nat) (idx : Byte) (x y : Nat), table < 2 → x < 8 → y < 8 →
    tilePixel (BitVec.ofNat 16 (table * 0x1000)) idx x y s =
      (s.cart.chr.read (table * 4096 + idx.toNat * 16 + y)).toNat / 2 ^ (7 - x) % 2 +
      2 * ((s.cart.chr.read (table * 4096 + idx.toNat * 16 + y + 8)).toNat / 2 ^ (7 - x) % 2)) ∧
  (∀ (s : State) (table palette : Nat),
    (table ≤ 1 → palette ≤ 7 → ∃ img : Image, call (.renderPatternTable table palette) s = .next (s, .image img) ∧
      img.length = 128 ∧ (∀ row ∈ img, row.length = 128) ∧
      ∀ i x y : Nat, i < 256 → x < 8 → y < 8 → (img[i / 16 * 8 + y]?.bind (·[i % 16 * 8 + x]?)) = some
        (colour palette (tilePixel (BitVec.ofNat 16 (table * 0x1000)) (BitVec.ofNat 8 i) x y s) s)) ∧
    (¬ (table ≤ 1 ∧ palette ≤ 7) → ∃ r, call (.renderPatternTable table palette) s = .refused r))

/-- Pixel (px, py) of renderBackground comes from the tile at column (coarse X + px/8) and row (coarse Y mod 30 +
py/8), wrapped into the neighbouring nametable, with the attribute quadrant's palette; the whole image does not depend
on PPUMASK, fine X or fine Y. That mask and fine scroll have no effect is the spec's own decision D24. (R297,
92_eei_decisions.md D24) -/
def Obligations.BackgroundImage : Prop :=
  (∀ s : State, (renderBackground s).length = 240 ∧ ∀ row ∈ renderBackground s, row.length = 256) ∧
  (∀ (s : State) (px py : Nat), px < 256 → py < 240 →
    ∃ col row n nb attr : Nat, col = s.ppu.t.toNat % 32 + px / 8 ∧ row = s.ppu.t.toNat / 32 % 32 % 30 + py / 8 ∧
      n = s.ppu.ctrl.toNat % 4 ^^^ (row / 30 * 2 + col / 32) ∧ nb = 0x2000 + n * 0x400 ∧
      attr = (ppuRead (BitVec.ofNat 16 (nb + 960 + row % 30 / 4 * 8 + col % 32 / 4)) s).toNat ∧
      ((renderBackground s)[py]?.bind (·[px]?)) = some
        (colour (attr / 4 ^ (row % 30 / 2 % 2 * 2 + col % 32 / 2 % 2) % 4)
          (tilePixel (BitVec.ofNat 16 (s.ppu.ctrl.toNat / 16 % 2 * 0x1000))
            (ppuRead (BitVec.ofNat 16 (nb + row % 30 * 32 + col % 32)) s) (px % 8) (py % 8) s) s)) ∧
  (∀ (s : State) (mask : Byte) (x : BitVec 3) (fineY : BitVec 3), renderBackground
    { s with ppu := { s.ppu with mask := mask, x := x, t := (s.ppu.t &&& 0x0FFF#15) ||| (fineY.setWidth 15 <<< 12) } } =
      renderBackground s) ∧
  (∀ s : State, call .renderBackground s = .next (s, .image (renderBackground s)))

/-- The system reset leaves every field at the value of its table: registers, flags, counters and working fields 0, SP
$FD, PC from $FFFC/$FFFD little-endian, 7 cycles owed, the PPU at the reset position with registers 0; RAM, VRAM,
palette, controllers, cartridge and fault state unchanged, from every state. The position, what reset keeps, the
counters and the working fields are the spec's own decisions D15, D29, D30 and D34. (R260, R307, 92_eei_decisions.md
D15, 92_eei_decisions.md D29, 92_eei_decisions.md D30, 92_eei_decisions.md D34) -/
def Obligations.SystemResetValues : Prop :=
  ∀ s : State, ∃ pc : Addr,
    pc.toNat = (busValue 0xFFFC#16 s).toNat + 256 * (busValue 0xFFFD#16 s).toNat ∧
    systemReset s = { s with
      a := 0, x := 0, y := 0, p := 0, sp := 0xFD, pc := pc, remaining := 7, opcode := 0, fetched := 0, ea := 0
      cycles := 0, instructions := 0, nmiPending := false, master := 0
      ppu := { scanline := s.params.resetScanline, dot := s.params.resetDot, frameComplete := false, frameCount := 0
               ctrl := 0, mask := 0, status := 0, v := 0, t := 0, x := 0, w := false, buffer := 0 } }

/-- From the reset of a system that is not halted and whose IRQ line is not asserted, 21 ticks count 7 cycles and no
instruction, leave PC at the reset vector's target, and end at a boundary on a CPU tick; the tick after them, whose
master count is 21, executes the first instruction: it ends with one instruction counted, or halted by that
instruction's fault. The tick number rests on the CPU phase, the spec's own decision D1, and R342 marks the timeline
as derived. (R301, R342, 92_eei_decisions.md D1) -/
def Obligations.FirstInstructionAtTick21 : Prop :=
  ∀ s : State, s.halted = false → s.irqLine = false → ∃ t, ticks 21 (systemReset s) = .next t ∧
    t.master = 21#64 ∧ t.cycles = 7#64 ∧ t.instructions = 0#64 ∧ t.remaining = 0 ∧ t.pc = (systemReset s).pc ∧
    t.sp = 0xFD#8 ∧ t.p = 0#8 ∧ SameMemories s t ∧ t.halted = false ∧
    ∃ u, step t = .next u ∧ (u.halted = true ∨ u.instructions = 1#64)

/-- Construction then reset of an image of 32768 zero PRG bytes and 8192 zero CHR bytes, horizontal mirroring, gives
State.reset; that cartridge is the model's choice (log 2), the parameters are the defaults of R6 (log 3). (R40, R340)
-/
def Obligations.PowerOnOfABlankCartridgeIsReset : Prop :=
  powerOn { prgBanks := 2, chrBanks := 1, mirroring := .horizontal, trainer := false, mapper := 0
            prg := List.replicate 32768 0#8, chr := List.replicate 8192 0#8 } Params.default = .next State.reset

/-- A system is built exactly when the mapper is 0, there is no trainer and no four-screen mirroring, PRG is 1 or 2
banks and CHR one bank of the bytes the counts say, and the reset position is valid; it then reads the image's bytes
and every other memory byte is 0; any other image is refused. The bank counts and the reset position are the spec's
own decisions D27 and D15. (R68, R308, 92_eei_decisions.md D15, 92_eei_decisions.md D27) -/
def Obligations.ConstructionAcceptsNromOnly : Prop :=
  ∀ (img : CartridgeImage) (params : Params),
    ((img.mapper = 0 ∧ img.trainer = false ∧ img.mirroring ≠ .fourScreen ∧ (img.prgBanks = 1 ∨ img.prgBanks = 2) ∧
        img.chrBanks = 1 ∧ img.prg.length = 16384 * img.prgBanks ∧ img.chr.length = 8192 ∧
        validPosition params.resetScanline params.resetDot = true) →
      ∃ s, construct img params = .next s ∧ (∀ k, s.cart.prg.read k = img.prg.getD k 0#8) ∧
        (∀ k, s.cart.chr.read k = img.chr.getD k 0#8) ∧ (s.cart.prgBanks = .one ↔ img.prgBanks = 1) ∧
        (s.cart.mirror = .horizontal ↔ img.mirroring = .horizontal) ∧ s.ram = [] ∧ s.vram = [] ∧ s.pal = [] ∧
        s.params = params ∧ s.fault = none ∧ s.halted = false ∧ s.romWriteSeen = false ∧ s.pc = 0#16 ∧ s.remaining = 0 ∧
        s.a = 0#8 ∧ s.x = 0#8 ∧ s.y = 0#8 ∧ s.sp = 0#8 ∧ s.p = 0#8 ∧ s.ctl0 = ⟨0#8, 0#8⟩ ∧ s.ctl1 = ⟨0#8, 0#8⟩ ∧
        s.ppu = Ppu.atPosition params.resetScanline params.resetDot ∧ s.nmiPending = false ∧ s.master = 0#64) ∧
    (¬ (img.mapper = 0 ∧ img.trainer = false ∧ img.mirroring ≠ .fourScreen ∧ (img.prgBanks = 1 ∨ img.prgBanks = 2) ∧
        img.chrBanks = 1 ∧ img.prg.length = 16384 * img.prgBanks ∧ img.chr.length = 8192 ∧
        validPosition params.resetScanline params.resetDot = true) → ∃ r, construct img params = .refused r)

end
end

