-- ==== Sys2Proof/Laws/State.lean ====
section
/-! SUPPORT. One lemma per field per named update of State, so that no proof unfolds a record update, and what the
bus reads of an updated state. -/

namespace Sys2Proof.Machine

@[simp] theorem setA_a (v : Byte) (s : State) : (setA v s).a = v := rfl
@[simp] theorem setA_x (v : Byte) (s : State) : (setA v s).x = s.x := rfl
@[simp] theorem setA_y (v : Byte) (s : State) : (setA v s).y = s.y := rfl
@[simp] theorem setA_sp (v : Byte) (s : State) : (setA v s).sp = s.sp := rfl
@[simp] theorem setA_p (v : Byte) (s : State) : (setA v s).p = s.p := rfl
@[simp] theorem setA_pc (v : Byte) (s : State) : (setA v s).pc = s.pc := rfl
@[simp] theorem setA_remaining (v : Byte) (s : State) : (setA v s).remaining = s.remaining := rfl
@[simp] theorem setA_opcode (v : Byte) (s : State) : (setA v s).opcode = s.opcode := rfl
@[simp] theorem setA_fetched (v : Byte) (s : State) : (setA v s).fetched = s.fetched := rfl
@[simp] theorem setA_ea (v : Byte) (s : State) : (setA v s).ea = s.ea := rfl
@[simp] theorem setA_cycles (v : Byte) (s : State) : (setA v s).cycles = s.cycles := rfl
@[simp] theorem setA_instructions (v : Byte) (s : State) : (setA v s).instructions = s.instructions := rfl
@[simp] theorem setA_ppu (v : Byte) (s : State) : (setA v s).ppu = s.ppu := rfl
@[simp] theorem setA_ctl0 (v : Byte) (s : State) : (setA v s).ctl0 = s.ctl0 := rfl
@[simp] theorem setA_ctl1 (v : Byte) (s : State) : (setA v s).ctl1 = s.ctl1 := rfl
@[simp] theorem setA_ram (v : Byte) (s : State) : (setA v s).ram = s.ram := rfl
@[simp] theorem setA_vram (v : Byte) (s : State) : (setA v s).vram = s.vram := rfl
@[simp] theorem setA_pal (v : Byte) (s : State) : (setA v s).pal = s.pal := rfl
@[simp] theorem setA_cart (v : Byte) (s : State) : (setA v s).cart = s.cart := rfl
@[simp] theorem setA_nmiPending (v : Byte) (s : State) : (setA v s).nmiPending = s.nmiPending := rfl
@[simp] theorem setA_master (v : Byte) (s : State) : (setA v s).master = s.master := rfl
@[simp] theorem setA_halted (v : Byte) (s : State) : (setA v s).halted = s.halted := rfl
@[simp] theorem setA_fault (v : Byte) (s : State) : (setA v s).fault = s.fault := rfl
@[simp] theorem setA_romWriteSeen (v : Byte) (s : State) : (setA v s).romWriteSeen = s.romWriteSeen := rfl
@[simp] theorem setA_irqLine (v : Byte) (s : State) : (setA v s).irqLine = s.irqLine := rfl
@[simp] theorem setA_params (v : Byte) (s : State) : (setA v s).params = s.params := rfl
@[simp] theorem busValue_setA (b : Addr) (v : Byte) (s : State) : busValue b (setA v s) = busValue b s := rfl
@[simp] theorem flag_setA (f : Flag) (v : Byte) (s : State) : (setA v s).flag f = s.flag f := rfl

@[simp] theorem setX_a (v : Byte) (s : State) : (setX v s).a = s.a := rfl
@[simp] theorem setX_x (v : Byte) (s : State) : (setX v s).x = v := rfl
@[simp] theorem setX_y (v : Byte) (s : State) : (setX v s).y = s.y := rfl
@[simp] theorem setX_sp (v : Byte) (s : State) : (setX v s).sp = s.sp := rfl
@[simp] theorem setX_p (v : Byte) (s : State) : (setX v s).p = s.p := rfl
@[simp] theorem setX_pc (v : Byte) (s : State) : (setX v s).pc = s.pc := rfl
@[simp] theorem setX_remaining (v : Byte) (s : State) : (setX v s).remaining = s.remaining := rfl
@[simp] theorem setX_opcode (v : Byte) (s : State) : (setX v s).opcode = s.opcode := rfl
@[simp] theorem setX_fetched (v : Byte) (s : State) : (setX v s).fetched = s.fetched := rfl
@[simp] theorem setX_ea (v : Byte) (s : State) : (setX v s).ea = s.ea := rfl
@[simp] theorem setX_cycles (v : Byte) (s : State) : (setX v s).cycles = s.cycles := rfl
@[simp] theorem setX_instructions (v : Byte) (s : State) : (setX v s).instructions = s.instructions := rfl
@[simp] theorem setX_ppu (v : Byte) (s : State) : (setX v s).ppu = s.ppu := rfl
@[simp] theorem setX_ctl0 (v : Byte) (s : State) : (setX v s).ctl0 = s.ctl0 := rfl
@[simp] theorem setX_ctl1 (v : Byte) (s : State) : (setX v s).ctl1 = s.ctl1 := rfl
@[simp] theorem setX_ram (v : Byte) (s : State) : (setX v s).ram = s.ram := rfl
@[simp] theorem setX_vram (v : Byte) (s : State) : (setX v s).vram = s.vram := rfl
@[simp] theorem setX_pal (v : Byte) (s : State) : (setX v s).pal = s.pal := rfl
@[simp] theorem setX_cart (v : Byte) (s : State) : (setX v s).cart = s.cart := rfl
@[simp] theorem setX_nmiPending (v : Byte) (s : State) : (setX v s).nmiPending = s.nmiPending := rfl
@[simp] theorem setX_master (v : Byte) (s : State) : (setX v s).master = s.master := rfl
@[simp] theorem setX_halted (v : Byte) (s : State) : (setX v s).halted = s.halted := rfl
@[simp] theorem setX_fault (v : Byte) (s : State) : (setX v s).fault = s.fault := rfl
@[simp] theorem setX_romWriteSeen (v : Byte) (s : State) : (setX v s).romWriteSeen = s.romWriteSeen := rfl
@[simp] theorem setX_irqLine (v : Byte) (s : State) : (setX v s).irqLine = s.irqLine := rfl
@[simp] theorem setX_params (v : Byte) (s : State) : (setX v s).params = s.params := rfl
@[simp] theorem busValue_setX (b : Addr) (v : Byte) (s : State) : busValue b (setX v s) = busValue b s := rfl
@[simp] theorem flag_setX (f : Flag) (v : Byte) (s : State) : (setX v s).flag f = s.flag f := rfl

@[simp] theorem setY_a (v : Byte) (s : State) : (setY v s).a = s.a := rfl
@[simp] theorem setY_x (v : Byte) (s : State) : (setY v s).x = s.x := rfl
@[simp] theorem setY_y (v : Byte) (s : State) : (setY v s).y = v := rfl
@[simp] theorem setY_sp (v : Byte) (s : State) : (setY v s).sp = s.sp := rfl
@[simp] theorem setY_p (v : Byte) (s : State) : (setY v s).p = s.p := rfl
@[simp] theorem setY_pc (v : Byte) (s : State) : (setY v s).pc = s.pc := rfl
@[simp] theorem setY_remaining (v : Byte) (s : State) : (setY v s).remaining = s.remaining := rfl
@[simp] theorem setY_opcode (v : Byte) (s : State) : (setY v s).opcode = s.opcode := rfl
@[simp] theorem setY_fetched (v : Byte) (s : State) : (setY v s).fetched = s.fetched := rfl
@[simp] theorem setY_ea (v : Byte) (s : State) : (setY v s).ea = s.ea := rfl
@[simp] theorem setY_cycles (v : Byte) (s : State) : (setY v s).cycles = s.cycles := rfl
@[simp] theorem setY_instructions (v : Byte) (s : State) : (setY v s).instructions = s.instructions := rfl
@[simp] theorem setY_ppu (v : Byte) (s : State) : (setY v s).ppu = s.ppu := rfl
@[simp] theorem setY_ctl0 (v : Byte) (s : State) : (setY v s).ctl0 = s.ctl0 := rfl
@[simp] theorem setY_ctl1 (v : Byte) (s : State) : (setY v s).ctl1 = s.ctl1 := rfl
@[simp] theorem setY_ram (v : Byte) (s : State) : (setY v s).ram = s.ram := rfl
@[simp] theorem setY_vram (v : Byte) (s : State) : (setY v s).vram = s.vram := rfl
@[simp] theorem setY_pal (v : Byte) (s : State) : (setY v s).pal = s.pal := rfl
@[simp] theorem setY_cart (v : Byte) (s : State) : (setY v s).cart = s.cart := rfl
@[simp] theorem setY_nmiPending (v : Byte) (s : State) : (setY v s).nmiPending = s.nmiPending := rfl
@[simp] theorem setY_master (v : Byte) (s : State) : (setY v s).master = s.master := rfl
@[simp] theorem setY_halted (v : Byte) (s : State) : (setY v s).halted = s.halted := rfl
@[simp] theorem setY_fault (v : Byte) (s : State) : (setY v s).fault = s.fault := rfl
@[simp] theorem setY_romWriteSeen (v : Byte) (s : State) : (setY v s).romWriteSeen = s.romWriteSeen := rfl
@[simp] theorem setY_irqLine (v : Byte) (s : State) : (setY v s).irqLine = s.irqLine := rfl
@[simp] theorem setY_params (v : Byte) (s : State) : (setY v s).params = s.params := rfl
@[simp] theorem busValue_setY (b : Addr) (v : Byte) (s : State) : busValue b (setY v s) = busValue b s := rfl
@[simp] theorem flag_setY (f : Flag) (v : Byte) (s : State) : (setY v s).flag f = s.flag f := rfl

@[simp] theorem setSp_a (v : Byte) (s : State) : (setSp v s).a = s.a := rfl
@[simp] theorem setSp_x (v : Byte) (s : State) : (setSp v s).x = s.x := rfl
@[simp] theorem setSp_y (v : Byte) (s : State) : (setSp v s).y = s.y := rfl
@[simp] theorem setSp_sp (v : Byte) (s : State) : (setSp v s).sp = v := rfl
@[simp] theorem setSp_p (v : Byte) (s : State) : (setSp v s).p = s.p := rfl
@[simp] theorem setSp_pc (v : Byte) (s : State) : (setSp v s).pc = s.pc := rfl
@[simp] theorem setSp_remaining (v : Byte) (s : State) : (setSp v s).remaining = s.remaining := rfl
@[simp] theorem setSp_opcode (v : Byte) (s : State) : (setSp v s).opcode = s.opcode := rfl
@[simp] theorem setSp_fetched (v : Byte) (s : State) : (setSp v s).fetched = s.fetched := rfl
@[simp] theorem setSp_ea (v : Byte) (s : State) : (setSp v s).ea = s.ea := rfl
@[simp] theorem setSp_cycles (v : Byte) (s : State) : (setSp v s).cycles = s.cycles := rfl
@[simp] theorem setSp_instructions (v : Byte) (s : State) : (setSp v s).instructions = s.instructions := rfl
@[simp] theorem setSp_ppu (v : Byte) (s : State) : (setSp v s).ppu = s.ppu := rfl
@[simp] theorem setSp_ctl0 (v : Byte) (s : State) : (setSp v s).ctl0 = s.ctl0 := rfl
@[simp] theorem setSp_ctl1 (v : Byte) (s : State) : (setSp v s).ctl1 = s.ctl1 := rfl
@[simp] theorem setSp_ram (v : Byte) (s : State) : (setSp v s).ram = s.ram := rfl
@[simp] theorem setSp_vram (v : Byte) (s : State) : (setSp v s).vram = s.vram := rfl
@[simp] theorem setSp_pal (v : Byte) (s : State) : (setSp v s).pal = s.pal := rfl
@[simp] theorem setSp_cart (v : Byte) (s : State) : (setSp v s).cart = s.cart := rfl
@[simp] theorem setSp_nmiPending (v : Byte) (s : State) : (setSp v s).nmiPending = s.nmiPending := rfl
@[simp] theorem setSp_master (v : Byte) (s : State) : (setSp v s).master = s.master := rfl
@[simp] theorem setSp_halted (v : Byte) (s : State) : (setSp v s).halted = s.halted := rfl
@[simp] theorem setSp_fault (v : Byte) (s : State) : (setSp v s).fault = s.fault := rfl
@[simp] theorem setSp_romWriteSeen (v : Byte) (s : State) : (setSp v s).romWriteSeen = s.romWriteSeen := rfl
@[simp] theorem setSp_irqLine (v : Byte) (s : State) : (setSp v s).irqLine = s.irqLine := rfl
@[simp] theorem setSp_params (v : Byte) (s : State) : (setSp v s).params = s.params := rfl
@[simp] theorem busValue_setSp (b : Addr) (v : Byte) (s : State) : busValue b (setSp v s) = busValue b s := rfl
@[simp] theorem flag_setSp (f : Flag) (v : Byte) (s : State) : (setSp v s).flag f = s.flag f := rfl

@[simp] theorem setP_a (v : Byte) (s : State) : (setP v s).a = s.a := rfl
@[simp] theorem setP_x (v : Byte) (s : State) : (setP v s).x = s.x := rfl
@[simp] theorem setP_y (v : Byte) (s : State) : (setP v s).y = s.y := rfl
@[simp] theorem setP_sp (v : Byte) (s : State) : (setP v s).sp = s.sp := rfl
@[simp] theorem setP_p (v : Byte) (s : State) : (setP v s).p = v := rfl
@[simp] theorem setP_pc (v : Byte) (s : State) : (setP v s).pc = s.pc := rfl
@[simp] theorem setP_remaining (v : Byte) (s : State) : (setP v s).remaining = s.remaining := rfl
@[simp] theorem setP_opcode (v : Byte) (s : State) : (setP v s).opcode = s.opcode := rfl
@[simp] theorem setP_fetched (v : Byte) (s : State) : (setP v s).fetched = s.fetched := rfl
@[simp] theorem setP_ea (v : Byte) (s : State) : (setP v s).ea = s.ea := rfl
@[simp] theorem setP_cycles (v : Byte) (s : State) : (setP v s).cycles = s.cycles := rfl
@[simp] theorem setP_instructions (v : Byte) (s : State) : (setP v s).instructions = s.instructions := rfl
@[simp] theorem setP_ppu (v : Byte) (s : State) : (setP v s).ppu = s.ppu := rfl
@[simp] theorem setP_ctl0 (v : Byte) (s : State) : (setP v s).ctl0 = s.ctl0 := rfl
@[simp] theorem setP_ctl1 (v : Byte) (s : State) : (setP v s).ctl1 = s.ctl1 := rfl
@[simp] theorem setP_ram (v : Byte) (s : State) : (setP v s).ram = s.ram := rfl
@[simp] theorem setP_vram (v : Byte) (s : State) : (setP v s).vram = s.vram := rfl
@[simp] theorem setP_pal (v : Byte) (s : State) : (setP v s).pal = s.pal := rfl
@[simp] theorem setP_cart (v : Byte) (s : State) : (setP v s).cart = s.cart := rfl
@[simp] theorem setP_nmiPending (v : Byte) (s : State) : (setP v s).nmiPending = s.nmiPending := rfl
@[simp] theorem setP_master (v : Byte) (s : State) : (setP v s).master = s.master := rfl
@[simp] theorem setP_halted (v : Byte) (s : State) : (setP v s).halted = s.halted := rfl
@[simp] theorem setP_fault (v : Byte) (s : State) : (setP v s).fault = s.fault := rfl
@[simp] theorem setP_romWriteSeen (v : Byte) (s : State) : (setP v s).romWriteSeen = s.romWriteSeen := rfl
@[simp] theorem setP_irqLine (v : Byte) (s : State) : (setP v s).irqLine = s.irqLine := rfl
@[simp] theorem setP_params (v : Byte) (s : State) : (setP v s).params = s.params := rfl
@[simp] theorem busValue_setP (b : Addr) (v : Byte) (s : State) : busValue b (setP v s) = busValue b s := rfl

@[simp] theorem setPc_a (v : Addr) (s : State) : (setPc v s).a = s.a := rfl
@[simp] theorem setPc_x (v : Addr) (s : State) : (setPc v s).x = s.x := rfl
@[simp] theorem setPc_y (v : Addr) (s : State) : (setPc v s).y = s.y := rfl
@[simp] theorem setPc_sp (v : Addr) (s : State) : (setPc v s).sp = s.sp := rfl
@[simp] theorem setPc_p (v : Addr) (s : State) : (setPc v s).p = s.p := rfl
@[simp] theorem setPc_pc (v : Addr) (s : State) : (setPc v s).pc = v := rfl
@[simp] theorem setPc_remaining (v : Addr) (s : State) : (setPc v s).remaining = s.remaining := rfl
@[simp] theorem setPc_opcode (v : Addr) (s : State) : (setPc v s).opcode = s.opcode := rfl
@[simp] theorem setPc_fetched (v : Addr) (s : State) : (setPc v s).fetched = s.fetched := rfl
@[simp] theorem setPc_ea (v : Addr) (s : State) : (setPc v s).ea = s.ea := rfl
@[simp] theorem setPc_cycles (v : Addr) (s : State) : (setPc v s).cycles = s.cycles := rfl
@[simp] theorem setPc_instructions (v : Addr) (s : State) : (setPc v s).instructions = s.instructions := rfl
@[simp] theorem setPc_ppu (v : Addr) (s : State) : (setPc v s).ppu = s.ppu := rfl
@[simp] theorem setPc_ctl0 (v : Addr) (s : State) : (setPc v s).ctl0 = s.ctl0 := rfl
@[simp] theorem setPc_ctl1 (v : Addr) (s : State) : (setPc v s).ctl1 = s.ctl1 := rfl
@[simp] theorem setPc_ram (v : Addr) (s : State) : (setPc v s).ram = s.ram := rfl
@[simp] theorem setPc_vram (v : Addr) (s : State) : (setPc v s).vram = s.vram := rfl
@[simp] theorem setPc_pal (v : Addr) (s : State) : (setPc v s).pal = s.pal := rfl
@[simp] theorem setPc_cart (v : Addr) (s : State) : (setPc v s).cart = s.cart := rfl
@[simp] theorem setPc_nmiPending (v : Addr) (s : State) : (setPc v s).nmiPending = s.nmiPending := rfl
@[simp] theorem setPc_master (v : Addr) (s : State) : (setPc v s).master = s.master := rfl
@[simp] theorem setPc_halted (v : Addr) (s : State) : (setPc v s).halted = s.halted := rfl
@[simp] theorem setPc_fault (v : Addr) (s : State) : (setPc v s).fault = s.fault := rfl
@[simp] theorem setPc_romWriteSeen (v : Addr) (s : State) : (setPc v s).romWriteSeen = s.romWriteSeen := rfl
@[simp] theorem setPc_irqLine (v : Addr) (s : State) : (setPc v s).irqLine = s.irqLine := rfl
@[simp] theorem setPc_params (v : Addr) (s : State) : (setPc v s).params = s.params := rfl
@[simp] theorem busValue_setPc (b : Addr) (v : Addr) (s : State) : busValue b (setPc v s) = busValue b s := rfl
@[simp] theorem flag_setPc (f : Flag) (v : Addr) (s : State) : (setPc v s).flag f = s.flag f := rfl

@[simp] theorem setEa_a (v : Addr) (s : State) : (setEa v s).a = s.a := rfl
@[simp] theorem setEa_x (v : Addr) (s : State) : (setEa v s).x = s.x := rfl
@[simp] theorem setEa_y (v : Addr) (s : State) : (setEa v s).y = s.y := rfl
@[simp] theorem setEa_sp (v : Addr) (s : State) : (setEa v s).sp = s.sp := rfl
@[simp] theorem setEa_p (v : Addr) (s : State) : (setEa v s).p = s.p := rfl
@[simp] theorem setEa_pc (v : Addr) (s : State) : (setEa v s).pc = s.pc := rfl
@[simp] theorem setEa_remaining (v : Addr) (s : State) : (setEa v s).remaining = s.remaining := rfl
@[simp] theorem setEa_opcode (v : Addr) (s : State) : (setEa v s).opcode = s.opcode := rfl
@[simp] theorem setEa_fetched (v : Addr) (s : State) : (setEa v s).fetched = s.fetched := rfl
@[simp] theorem setEa_ea (v : Addr) (s : State) : (setEa v s).ea = v := rfl
@[simp] theorem setEa_cycles (v : Addr) (s : State) : (setEa v s).cycles = s.cycles := rfl
@[simp] theorem setEa_instructions (v : Addr) (s : State) : (setEa v s).instructions = s.instructions := rfl
@[simp] theorem setEa_ppu (v : Addr) (s : State) : (setEa v s).ppu = s.ppu := rfl
@[simp] theorem setEa_ctl0 (v : Addr) (s : State) : (setEa v s).ctl0 = s.ctl0 := rfl
@[simp] theorem setEa_ctl1 (v : Addr) (s : State) : (setEa v s).ctl1 = s.ctl1 := rfl
@[simp] theorem setEa_ram (v : Addr) (s : State) : (setEa v s).ram = s.ram := rfl
@[simp] theorem setEa_vram (v : Addr) (s : State) : (setEa v s).vram = s.vram := rfl
@[simp] theorem setEa_pal (v : Addr) (s : State) : (setEa v s).pal = s.pal := rfl
@[simp] theorem setEa_cart (v : Addr) (s : State) : (setEa v s).cart = s.cart := rfl
@[simp] theorem setEa_nmiPending (v : Addr) (s : State) : (setEa v s).nmiPending = s.nmiPending := rfl
@[simp] theorem setEa_master (v : Addr) (s : State) : (setEa v s).master = s.master := rfl
@[simp] theorem setEa_halted (v : Addr) (s : State) : (setEa v s).halted = s.halted := rfl
@[simp] theorem setEa_fault (v : Addr) (s : State) : (setEa v s).fault = s.fault := rfl
@[simp] theorem setEa_romWriteSeen (v : Addr) (s : State) : (setEa v s).romWriteSeen = s.romWriteSeen := rfl
@[simp] theorem setEa_irqLine (v : Addr) (s : State) : (setEa v s).irqLine = s.irqLine := rfl
@[simp] theorem setEa_params (v : Addr) (s : State) : (setEa v s).params = s.params := rfl
@[simp] theorem busValue_setEa (b : Addr) (v : Addr) (s : State) : busValue b (setEa v s) = busValue b s := rfl
@[simp] theorem flag_setEa (f : Flag) (v : Addr) (s : State) : (setEa v s).flag f = s.flag f := rfl

@[simp] theorem setFetched_a (v : Byte) (s : State) : (setFetched v s).a = s.a := rfl
@[simp] theorem setFetched_x (v : Byte) (s : State) : (setFetched v s).x = s.x := rfl
@[simp] theorem setFetched_y (v : Byte) (s : State) : (setFetched v s).y = s.y := rfl
@[simp] theorem setFetched_sp (v : Byte) (s : State) : (setFetched v s).sp = s.sp := rfl
@[simp] theorem setFetched_p (v : Byte) (s : State) : (setFetched v s).p = s.p := rfl
@[simp] theorem setFetched_pc (v : Byte) (s : State) : (setFetched v s).pc = s.pc := rfl
@[simp] theorem setFetched_remaining (v : Byte) (s : State) : (setFetched v s).remaining = s.remaining := rfl
@[simp] theorem setFetched_opcode (v : Byte) (s : State) : (setFetched v s).opcode = s.opcode := rfl
@[simp] theorem setFetched_fetched (v : Byte) (s : State) : (setFetched v s).fetched = v := rfl
@[simp] theorem setFetched_ea (v : Byte) (s : State) : (setFetched v s).ea = s.ea := rfl
@[simp] theorem setFetched_cycles (v : Byte) (s : State) : (setFetched v s).cycles = s.cycles := rfl
@[simp] theorem setFetched_instructions (v : Byte) (s : State) : (setFetched v s).instructions = s.instructions := rfl
@[simp] theorem setFetched_ppu (v : Byte) (s : State) : (setFetched v s).ppu = s.ppu := rfl
@[simp] theorem setFetched_ctl0 (v : Byte) (s : State) : (setFetched v s).ctl0 = s.ctl0 := rfl
@[simp] theorem setFetched_ctl1 (v : Byte) (s : State) : (setFetched v s).ctl1 = s.ctl1 := rfl
@[simp] theorem setFetched_ram (v : Byte) (s : State) : (setFetched v s).ram = s.ram := rfl
@[simp] theorem setFetched_vram (v : Byte) (s : State) : (setFetched v s).vram = s.vram := rfl
@[simp] theorem setFetched_pal (v : Byte) (s : State) : (setFetched v s).pal = s.pal := rfl
@[simp] theorem setFetched_cart (v : Byte) (s : State) : (setFetched v s).cart = s.cart := rfl
@[simp] theorem setFetched_nmiPending (v : Byte) (s : State) : (setFetched v s).nmiPending = s.nmiPending := rfl
@[simp] theorem setFetched_master (v : Byte) (s : State) : (setFetched v s).master = s.master := rfl
@[simp] theorem setFetched_halted (v : Byte) (s : State) : (setFetched v s).halted = s.halted := rfl
@[simp] theorem setFetched_fault (v : Byte) (s : State) : (setFetched v s).fault = s.fault := rfl
@[simp] theorem setFetched_romWriteSeen (v : Byte) (s : State) : (setFetched v s).romWriteSeen = s.romWriteSeen := rfl
@[simp] theorem setFetched_irqLine (v : Byte) (s : State) : (setFetched v s).irqLine = s.irqLine := rfl
@[simp] theorem setFetched_params (v : Byte) (s : State) : (setFetched v s).params = s.params := rfl
@[simp] theorem busValue_setFetched (b : Addr) (v : Byte) (s : State) : busValue b (setFetched v s) = busValue b s := rfl
@[simp] theorem flag_setFetched (f : Flag) (v : Byte) (s : State) : (setFetched v s).flag f = s.flag f := rfl

@[simp] theorem setOpcode_a (v : Byte) (s : State) : (setOpcode v s).a = s.a := rfl
@[simp] theorem setOpcode_x (v : Byte) (s : State) : (setOpcode v s).x = s.x := rfl
@[simp] theorem setOpcode_y (v : Byte) (s : State) : (setOpcode v s).y = s.y := rfl
@[simp] theorem setOpcode_sp (v : Byte) (s : State) : (setOpcode v s).sp = s.sp := rfl
@[simp] theorem setOpcode_p (v : Byte) (s : State) : (setOpcode v s).p = s.p := rfl
@[simp] theorem setOpcode_pc (v : Byte) (s : State) : (setOpcode v s).pc = s.pc := rfl
@[simp] theorem setOpcode_remaining (v : Byte) (s : State) : (setOpcode v s).remaining = s.remaining := rfl
@[simp] theorem setOpcode_opcode (v : Byte) (s : State) : (setOpcode v s).opcode = v := rfl
@[simp] theorem setOpcode_fetched (v : Byte) (s : State) : (setOpcode v s).fetched = s.fetched := rfl
@[simp] theorem setOpcode_ea (v : Byte) (s : State) : (setOpcode v s).ea = s.ea := rfl
@[simp] theorem setOpcode_cycles (v : Byte) (s : State) : (setOpcode v s).cycles = s.cycles := rfl
@[simp] theorem setOpcode_instructions (v : Byte) (s : State) : (setOpcode v s).instructions = s.instructions := rfl
@[simp] theorem setOpcode_ppu (v : Byte) (s : State) : (setOpcode v s).ppu = s.ppu := rfl
@[simp] theorem setOpcode_ctl0 (v : Byte) (s : State) : (setOpcode v s).ctl0 = s.ctl0 := rfl
@[simp] theorem setOpcode_ctl1 (v : Byte) (s : State) : (setOpcode v s).ctl1 = s.ctl1 := rfl
@[simp] theorem setOpcode_ram (v : Byte) (s : State) : (setOpcode v s).ram = s.ram := rfl
@[simp] theorem setOpcode_vram (v : Byte) (s : State) : (setOpcode v s).vram = s.vram := rfl
@[simp] theorem setOpcode_pal (v : Byte) (s : State) : (setOpcode v s).pal = s.pal := rfl
@[simp] theorem setOpcode_cart (v : Byte) (s : State) : (setOpcode v s).cart = s.cart := rfl
@[simp] theorem setOpcode_nmiPending (v : Byte) (s : State) : (setOpcode v s).nmiPending = s.nmiPending := rfl
@[simp] theorem setOpcode_master (v : Byte) (s : State) : (setOpcode v s).master = s.master := rfl
@[simp] theorem setOpcode_halted (v : Byte) (s : State) : (setOpcode v s).halted = s.halted := rfl
@[simp] theorem setOpcode_fault (v : Byte) (s : State) : (setOpcode v s).fault = s.fault := rfl
@[simp] theorem setOpcode_romWriteSeen (v : Byte) (s : State) : (setOpcode v s).romWriteSeen = s.romWriteSeen := rfl
@[simp] theorem setOpcode_irqLine (v : Byte) (s : State) : (setOpcode v s).irqLine = s.irqLine := rfl
@[simp] theorem setOpcode_params (v : Byte) (s : State) : (setOpcode v s).params = s.params := rfl
@[simp] theorem busValue_setOpcode (b : Addr) (v : Byte) (s : State) : busValue b (setOpcode v s) = busValue b s := rfl
@[simp] theorem flag_setOpcode (f : Flag) (v : Byte) (s : State) : (setOpcode v s).flag f = s.flag f := rfl

@[simp] theorem setRemaining_a (v : Nat) (s : State) : (setRemaining v s).a = s.a := rfl
@[simp] theorem setRemaining_x (v : Nat) (s : State) : (setRemaining v s).x = s.x := rfl
@[simp] theorem setRemaining_y (v : Nat) (s : State) : (setRemaining v s).y = s.y := rfl
@[simp] theorem setRemaining_sp (v : Nat) (s : State) : (setRemaining v s).sp = s.sp := rfl
@[simp] theorem setRemaining_p (v : Nat) (s : State) : (setRemaining v s).p = s.p := rfl
@[simp] theorem setRemaining_pc (v : Nat) (s : State) : (setRemaining v s).pc = s.pc := rfl
@[simp] theorem setRemaining_remaining (v : Nat) (s : State) : (setRemaining v s).remaining = v := rfl
@[simp] theorem setRemaining_opcode (v : Nat) (s : State) : (setRemaining v s).opcode = s.opcode := rfl
@[simp] theorem setRemaining_fetched (v : Nat) (s : State) : (setRemaining v s).fetched = s.fetched := rfl
@[simp] theorem setRemaining_ea (v : Nat) (s : State) : (setRemaining v s).ea = s.ea := rfl
@[simp] theorem setRemaining_cycles (v : Nat) (s : State) : (setRemaining v s).cycles = s.cycles := rfl
@[simp] theorem setRemaining_instructions (v : Nat) (s : State) : (setRemaining v s).instructions = s.instructions := rfl
@[simp] theorem setRemaining_ppu (v : Nat) (s : State) : (setRemaining v s).ppu = s.ppu := rfl
@[simp] theorem setRemaining_ctl0 (v : Nat) (s : State) : (setRemaining v s).ctl0 = s.ctl0 := rfl
@[simp] theorem setRemaining_ctl1 (v : Nat) (s : State) : (setRemaining v s).ctl1 = s.ctl1 := rfl
@[simp] theorem setRemaining_ram (v : Nat) (s : State) : (setRemaining v s).ram = s.ram := rfl
@[simp] theorem setRemaining_vram (v : Nat) (s : State) : (setRemaining v s).vram = s.vram := rfl
@[simp] theorem setRemaining_pal (v : Nat) (s : State) : (setRemaining v s).pal = s.pal := rfl
@[simp] theorem setRemaining_cart (v : Nat) (s : State) : (setRemaining v s).cart = s.cart := rfl
@[simp] theorem setRemaining_nmiPending (v : Nat) (s : State) : (setRemaining v s).nmiPending = s.nmiPending := rfl
@[simp] theorem setRemaining_master (v : Nat) (s : State) : (setRemaining v s).master = s.master := rfl
@[simp] theorem setRemaining_halted (v : Nat) (s : State) : (setRemaining v s).halted = s.halted := rfl
@[simp] theorem setRemaining_fault (v : Nat) (s : State) : (setRemaining v s).fault = s.fault := rfl
@[simp] theorem setRemaining_romWriteSeen (v : Nat) (s : State) : (setRemaining v s).romWriteSeen = s.romWriteSeen := rfl
@[simp] theorem setRemaining_irqLine (v : Nat) (s : State) : (setRemaining v s).irqLine = s.irqLine := rfl
@[simp] theorem setRemaining_params (v : Nat) (s : State) : (setRemaining v s).params = s.params := rfl
@[simp] theorem busValue_setRemaining (b : Addr) (v : Nat) (s : State) : busValue b (setRemaining v s) = busValue b s := rfl
@[simp] theorem flag_setRemaining (f : Flag) (v : Nat) (s : State) : (setRemaining v s).flag f = s.flag f := rfl

@[simp] theorem setFlag_a (f : Flag) (v : Bool) (s : State) : (setFlag f v s).a = s.a := rfl
@[simp] theorem setZN_a (v : Byte) (s : State) : (setZN v s).a = s.a := rfl
@[simp] theorem setFlag_x (f : Flag) (v : Bool) (s : State) : (setFlag f v s).x = s.x := rfl
@[simp] theorem setZN_x (v : Byte) (s : State) : (setZN v s).x = s.x := rfl
@[simp] theorem setFlag_y (f : Flag) (v : Bool) (s : State) : (setFlag f v s).y = s.y := rfl
@[simp] theorem setZN_y (v : Byte) (s : State) : (setZN v s).y = s.y := rfl
@[simp] theorem setFlag_sp (f : Flag) (v : Bool) (s : State) : (setFlag f v s).sp = s.sp := rfl
@[simp] theorem setZN_sp (v : Byte) (s : State) : (setZN v s).sp = s.sp := rfl
@[simp] theorem setFlag_p (f : Flag) (v : Bool) (s : State) : (setFlag f v s).p = putFlag f v s.p := rfl
@[simp] theorem setZN_p (v : Byte) (s : State) : (setZN v s).p = putZN v s.p := rfl
@[simp] theorem setFlag_pc (f : Flag) (v : Bool) (s : State) : (setFlag f v s).pc = s.pc := rfl
@[simp] theorem setZN_pc (v : Byte) (s : State) : (setZN v s).pc = s.pc := rfl
@[simp] theorem setFlag_remaining (f : Flag) (v : Bool) (s : State) : (setFlag f v s).remaining = s.remaining := rfl
@[simp] theorem setZN_remaining (v : Byte) (s : State) : (setZN v s).remaining = s.remaining := rfl
@[simp] theorem setFlag_opcode (f : Flag) (v : Bool) (s : State) : (setFlag f v s).opcode = s.opcode := rfl
@[simp] theorem setZN_opcode (v : Byte) (s : State) : (setZN v s).opcode = s.opcode := rfl
@[simp] theorem setFlag_fetched (f : Flag) (v : Bool) (s : State) : (setFlag f v s).fetched = s.fetched := rfl
@[simp] theorem setZN_fetched (v : Byte) (s : State) : (setZN v s).fetched = s.fetched := rfl
@[simp] theorem setFlag_ea (f : Flag) (v : Bool) (s : State) : (setFlag f v s).ea = s.ea := rfl
@[simp] theorem setZN_ea (v : Byte) (s : State) : (setZN v s).ea = s.ea := rfl
@[simp] theorem setFlag_cycles (f : Flag) (v : Bool) (s : State) : (setFlag f v s).cycles = s.cycles := rfl
@[simp] theorem setZN_cycles (v : Byte) (s : State) : (setZN v s).cycles = s.cycles := rfl
@[simp] theorem setFlag_instructions (f : Flag) (v : Bool) (s : State) : (setFlag f v s).instructions = s.instructions := rfl
@[simp] theorem setZN_instructions (v : Byte) (s : State) : (setZN v s).instructions = s.instructions := rfl
@[simp] theorem setFlag_ppu (f : Flag) (v : Bool) (s : State) : (setFlag f v s).ppu = s.ppu := rfl
@[simp] theorem setZN_ppu (v : Byte) (s : State) : (setZN v s).ppu = s.ppu := rfl
@[simp] theorem setFlag_ctl0 (f : Flag) (v : Bool) (s : State) : (setFlag f v s).ctl0 = s.ctl0 := rfl
@[simp] theorem setZN_ctl0 (v : Byte) (s : State) : (setZN v s).ctl0 = s.ctl0 := rfl
@[simp] theorem setFlag_ctl1 (f : Flag) (v : Bool) (s : State) : (setFlag f v s).ctl1 = s.ctl1 := rfl
@[simp] theorem setZN_ctl1 (v : Byte) (s : State) : (setZN v s).ctl1 = s.ctl1 := rfl
@[simp] theorem setFlag_ram (f : Flag) (v : Bool) (s : State) : (setFlag f v s).ram = s.ram := rfl
@[simp] theorem setZN_ram (v : Byte) (s : State) : (setZN v s).ram = s.ram := rfl
@[simp] theorem setFlag_vram (f : Flag) (v : Bool) (s : State) : (setFlag f v s).vram = s.vram := rfl
@[simp] theorem setZN_vram (v : Byte) (s : State) : (setZN v s).vram = s.vram := rfl
@[simp] theorem setFlag_pal (f : Flag) (v : Bool) (s : State) : (setFlag f v s).pal = s.pal := rfl
@[simp] theorem setZN_pal (v : Byte) (s : State) : (setZN v s).pal = s.pal := rfl
@[simp] theorem setFlag_cart (f : Flag) (v : Bool) (s : State) : (setFlag f v s).cart = s.cart := rfl
@[simp] theorem setZN_cart (v : Byte) (s : State) : (setZN v s).cart = s.cart := rfl
@[simp] theorem setFlag_nmiPending (f : Flag) (v : Bool) (s : State) : (setFlag f v s).nmiPending = s.nmiPending := rfl
@[simp] theorem setZN_nmiPending (v : Byte) (s : State) : (setZN v s).nmiPending = s.nmiPending := rfl
@[simp] theorem setFlag_master (f : Flag) (v : Bool) (s : State) : (setFlag f v s).master = s.master := rfl
@[simp] theorem setZN_master (v : Byte) (s : State) : (setZN v s).master = s.master := rfl
@[simp] theorem setFlag_halted (f : Flag) (v : Bool) (s : State) : (setFlag f v s).halted = s.halted := rfl
@[simp] theorem setZN_halted (v : Byte) (s : State) : (setZN v s).halted = s.halted := rfl
@[simp] theorem setFlag_fault (f : Flag) (v : Bool) (s : State) : (setFlag f v s).fault = s.fault := rfl
@[simp] theorem setZN_fault (v : Byte) (s : State) : (setZN v s).fault = s.fault := rfl
@[simp] theorem setFlag_romWriteSeen (f : Flag) (v : Bool) (s : State) : (setFlag f v s).romWriteSeen = s.romWriteSeen := rfl
@[simp] theorem setZN_romWriteSeen (v : Byte) (s : State) : (setZN v s).romWriteSeen = s.romWriteSeen := rfl
@[simp] theorem setFlag_irqLine (f : Flag) (v : Bool) (s : State) : (setFlag f v s).irqLine = s.irqLine := rfl
@[simp] theorem setZN_irqLine (v : Byte) (s : State) : (setZN v s).irqLine = s.irqLine := rfl
@[simp] theorem setFlag_params (f : Flag) (v : Bool) (s : State) : (setFlag f v s).params = s.params := rfl
@[simp] theorem setZN_params (v : Byte) (s : State) : (setZN v s).params = s.params := rfl
@[simp] theorem busValue_setFlag (b : Addr) (f : Flag) (v : Bool) (s : State) : busValue b (setFlag f v s) = busValue b s := rfl
@[simp] theorem busValue_setZN (b : Addr) (v : Byte) (s : State) : busValue b (setZN v s) = busValue b s := rfl

end Sys2Proof.Machine
end

