-- ==== Sys2Proof/Laws/Flags.lean ====
section
/-! SUPPORT. What a flag reads after a flag is written, and the bits of the status bytes that are pushed and pulled
(spec/10_state.md R23, R24). -/

namespace Sys2Proof.Machine

theorem Flag.index_lt (f : Flag) : f.index < 8 := by cases f <;> decide

theorem Flag.index_inj {f g : Flag} : f.index = g.index ↔ f = g := by
  cases f <;> cases g <;> decide

/-- A flag read after a flag write. -/
@[simp] theorem getFlag_putFlag (f g : Flag) (b : Bool) (p : Byte) :
    getFlag f (putFlag g b p) = if f = g then b else getFlag f p := by
  unfold getFlag putFlag
  cases b <;> cases f <;> cases g <;>
    simp [Flag.index]

theorem getFlag_putZN (f : Flag) (v p : Byte) :
    getFlag f (putZN v p) = if f = .n then v.getLsbD 7 else if f = .z then v == 0#8 else getFlag f p := by
  simp [putZN]

@[simp] theorem getFlag_putZN_z (v p : Byte) : getFlag .z (putZN v p) = (v == 0#8) := by simp [getFlag_putZN]
@[simp] theorem getFlag_putZN_n (v p : Byte) : getFlag .n (putZN v p) = v.getLsbD 7 := by simp [getFlag_putZN]
@[simp] theorem getFlag_putZN_c (v p : Byte) : getFlag .c (putZN v p) = getFlag .c p := by simp [getFlag_putZN]
@[simp] theorem getFlag_putZN_i (v p : Byte) : getFlag .i (putZN v p) = getFlag .i p := by simp [getFlag_putZN]
@[simp] theorem getFlag_putZN_d (v p : Byte) : getFlag .d (putZN v p) = getFlag .d p := by simp [getFlag_putZN]
@[simp] theorem getFlag_putZN_b (v p : Byte) : getFlag .b (putZN v p) = getFlag .b p := by simp [getFlag_putZN]
@[simp] theorem getFlag_putZN_u (v p : Byte) : getFlag .u (putZN v p) = getFlag .u p := by simp [getFlag_putZN]
@[simp] theorem getFlag_putZN_v (v p : Byte) : getFlag .v (putZN v p) = getFlag .v p := by simp [getFlag_putZN]

/-- PHP and BRK push B = 1 and U = 1 and every other flag as it is. -/
theorem getFlag_pushedByInstruction (f : Flag) (p : Byte) :
    getFlag f (pushedByInstruction p) = (decide (f = .b) || decide (f = .u) || getFlag f p) := by
  cases f <;> simp [getFlag, pushedByInstruction, Flag.index]

/-- IRQ and NMI entry push B = 0 and U = 1 and every other flag as it is. -/
theorem getFlag_pushedByInterrupt (f : Flag) (p : Byte) :
    getFlag f (pushedByInterrupt p) = (decide (f = .u) || (decide (f ≠ .b) && getFlag f p)) := by
  cases f <;> simp [getFlag, pushedByInterrupt, Flag.index]

/-- PLP and RTI clear B and U and take every other flag. -/
theorem getFlag_pulledStatus (f : Flag) (v : Byte) :
    getFlag f (pulledStatus v) = (decide (f ≠ .b) && decide (f ≠ .u) && getFlag f v) := by
  cases f <;> simp [getFlag, pulledStatus, Flag.index]

/-- Two status bytes with the same eight flags are the same byte. -/
theorem status_ext {p q : Byte} (h : ∀ f, getFlag f p = getFlag f q) : p = q := by
  apply BitVec.eq_of_getLsbD_eq
  intro i hi
  have h0 := h .c; have h1 := h .z; have h2 := h .i; have h3 := h .d
  have h4 := h .b; have h5 := h .u; have h6 := h .v; have h7 := h .n
  simp only [getFlag, Flag.index] at h0 h1 h2 h3 h4 h5 h6 h7
  interval_cases i <;> assumption

end Sys2Proof.Machine
end

