-- ==== Sys2Proof/Laws/Arith.lean ====
section
/-! SUPPORT. The flag computations and addresses in numbers (spec/42_arith_logic.md R180 to R182): what the adder, the
comparison and the shifts leave, said of any state that takes their registers and flags; pages and byte order. -/

namespace Sys2Proof.Machine

@[simp] theorem addToA_a (m : Byte) (u : State) : (addToA m u).a = BitVec.ofNat 8 (adderSum u.a m (u.flag .c)) := rfl
@[simp] theorem addToA_x (m : Byte) (u : State) : (addToA m u).x = u.x := rfl
@[simp] theorem addToA_y (m : Byte) (u : State) : (addToA m u).y = u.y := rfl
@[simp] theorem compareBytes_a (r m : Byte) (u : State) : (compareBytes r m u).a = u.a := rfl
@[simp] theorem compareBytes_x (r m : Byte) (u : State) : (compareBytes r m u).x = u.x := rfl
@[simp] theorem compareBytes_y (r m : Byte) (u : State) : (compareBytes r m u).y = u.y := rfl

/-- What the adder leaves (R180). -/
theorem added_of_addToA {m : Byte} {s t u : State} (ha : t.a = (addToA m u).a) (hp : t.p = (addToA m u).p)
    (hua : u.a = s.a) (hup : FlagsKept [.c, .z, .v, .n] s u) : Added s.a m (getFlag .c u.p) s t := by
  have hc : u.flag .c = getFlag .c u.p := rfl
  have hta : t.a = BitVec.ofNat 8 (adderSum s.a m (getFlag .c u.p)) := by rw [ha, addToA_a, hua, hc]
  have hz : ∀ f, getFlag f t.p = if f = .n then t.a.getLsbD 7 else if f = .z then t.a == 0#8
      else if f = .v then (((s.a ^^^ t.a) &&& (m ^^^ t.a) &&& 0x80#8) != 0#8)
      else if f = .c then decide (adderSum s.a m (getFlag .c u.p) > 0xFF) else getFlag f u.p := by
    intro f
    rw [hp, hta, ← hua, ← hc]
    simp [addToA, setZN, getFlag_putZN]
  refine ⟨?_, ?_, ?_, ⟨?_, ?_⟩, ?_⟩
  · rw [hta]; simp [adderSum]
  · rw [hz]; simp [adderSum]; omega
  · rw [hz]; simp
  · rw [hz]; simp
  · rw [hz]; simp
  · intro f hf
    rw [hz]
    simp only [List.mem_cons, List.mem_nil_iff, or_false, not_or] at hf
    simp only [hf.1, hf.2.1, hf.2.2.1, hf.2.2.2, if_false]
    exact hup f (by simp [hf])

/-- What a comparison leaves (R181). -/
theorem compared_of_compareBytes {r m : Byte} {s t u : State} (hp : t.p = (compareBytes r m u).p)
    (hup : FlagsKept [.c, .z, .n] s u) : Compared r m s t := by
  have hz : ∀ f, getFlag f t.p = if f = .n then (r - m).getLsbD 7 else if f = .z then (r - m) == 0#8
      else if f = .c then decide (m ≤ r) else getFlag f u.p := by
    intro f
    rw [hp]
    simp [compareBytes, setFlag, setZN, getFlag_putZN]
  refine ⟨?_, ⟨?_, ?_⟩, ?_⟩
  · rw [hz]; simp [BitVec.le_def]
  · rw [hz]; simp
  · rw [hz]; simp
  · intro f hf
    rw [hz]
    simp only [List.mem_cons, List.mem_nil_iff, or_false, not_or] at hf
    simp only [hf.1, hf.2.1, hf.2.2, if_false]
    exact hup f (by simp [hf])

/-- Z and N written last, the other flags as they were. -/
theorem showsZN_of {v : Byte} {t : State} {p : Byte} (hp : t.p = putZN v p) : ShowsZN v t := by
  simp [ShowsZN, hp]

theorem flagsKept_of_putZN {v : Byte} {s t : State} (hp : t.p = putZN v s.p) : FlagsKept [.z, .n] s t := by
  intro f hf
  simp only [List.mem_cons, List.mem_nil_iff, or_false, not_or] at hf
  simp [hp, getFlag_putZN, hf.1, hf.2]

/-- Z and N of one byte over a carry. -/
theorem flagsKept_of_putZN_putC {v : Byte} {b : Bool} {s t : State} (hp : t.p = putZN v (putFlag .c b s.p)) :
    FlagsKept [.c, .z, .n] s t := by
  intro f hf
  simp only [List.mem_cons, List.mem_nil_iff, or_false, not_or] at hf
  simp [hp, getFlag_putZN, hf.1, hf.2.1, hf.2.2]

/-- The shifts and rotates in numbers (R182). -/
theorem shl_eq : ∀ v : Byte, v <<< 1 = shiftedLeft v false := by decide
theorem shr_eq : ∀ v : Byte, v >>> 1 = shiftedRight v false := by decide
theorem rol_eq : ∀ c : Bool, ∀ v : Byte, (v <<< 1) ||| (BitVec.ofBool c).setWidth 8 = shiftedLeft v c := by decide
theorem ror_eq : ∀ c : Bool, ∀ v : Byte, (v >>> 1) ||| ((BitVec.ofBool c).setWidth 8 <<< 7) = shiftedRight v c := by decide

theorem shiftLeft_fst (v : Byte) (u : State) : (shiftLeft v u).1 = shiftedLeft v false := shl_eq v
theorem shiftRight_fst (v : Byte) (u : State) : (shiftRight v u).1 = shiftedRight v false := shr_eq v
theorem rotateLeft_fst (v : Byte) (u : State) : (rotateLeft v u).1 = shiftedLeft v (getFlag .c u.p) := rol_eq _ v
theorem rotateRight_fst (v : Byte) (u : State) : (rotateRight v u).1 = shiftedRight v (getFlag .c u.p) := ror_eq _ v

/-! ### Addresses in numbers -/

theorem addrOf_toNat (h l : Byte) : (addrOf h l).toNat = l.toNat + 256 * h.toNat := by
  have hl := l.isLt
  simp only [addrOf, BitVec.toNat_append]
  rw [Nat.shiftLeft_eq, Nat.mul_comm, ← Nat.two_pow_add_eq_or_of_lt (i := 8) hl]
  omega

theorem loByte_toNat (a : Addr) : (loByte a).toNat = a.toNat % 256 := by
  simp [loByte, BitVec.extractLsb'_toNat]

theorem hiByte_toNat (a : Addr) : (hiByte a).toNat = a.toNat / 256 := by
  have := a.isLt
  simp [hiByte, BitVec.extractLsb'_toNat, Nat.shiftRight_eq_div_pow]
  omega

/-- The page of an address. -/
theorem page_toNat (a : Addr) : (a &&& 0xFF00#16).toNat = a.toNat / 256 * 256 := by
  have h : a &&& 0xFF00#16 = (a >>> 8) <<< 8 := by
    apply BitVec.eq_of_getLsbD_eq
    intro k hk
    interval_cases k <;> simp
  have := a.isLt
  rw [h]
  simp [Nat.shiftLeft_eq, Nat.shiftRight_eq_div_pow]
  omega

theorem page_eq_iff (a b : Addr) : (a &&& 0xFF00#16 = b &&& 0xFF00#16) ↔ a.toNat / 256 = b.toNat / 256 := by
  rw [← BitVec.toNat_inj, page_toNat, page_toNat]
  omega

theorem pageCrossed_eq (a b : Addr) : pageCrossed a b = decide (a.toNat / 256 ≠ b.toNat / 256) := by
  have := page_eq_iff a b
  unfold pageCrossed
  by_cases h : a &&& 0xFF00#16 = b &&& 0xFF00#16
  · simp [h, this.1 h]
  · simp [h, mt this.2 h]

end Sys2Proof.Machine
end

