-- ==== Sys2Proof/Laws/Memory.lean ====
section
/-! SUPPORT. The laws of a byte memory: a read after a write, the canonical form is kept, equal contents are equal
data (spec/20_memory.md R63). -/

namespace Sys2Proof.Machine

theorem Memory.read_nil (n : Nat) : Memory.read [] n = 0 := rfl

/-- Below the first index of a canonical memory every byte is unlisted. -/
theorem Memory.read_below {size : Nat} {m : Memory} {lo n : Nat} (h : Memory.wfFrom size lo m = true) (hn : n < lo) :
    m.read n = 0 := by
  induction m generalizing lo with
  | nil => rfl
  | cons c rest ih =>
    obtain ⟨k, b⟩ := c
    simp only [Memory.wfFrom, Bool.and_eq_true, decide_eq_true_eq] at h
    obtain ⟨⟨⟨hlo, -⟩, -⟩, hrest⟩ := h
    rw [Memory.read, if_neg (by omega), ih hrest (by omega)]

theorem Memory.wfFrom_mono {size : Nat} {m : Memory} {lo lo' : Nat} (h : Memory.wfFrom size lo m = true) (hl : lo' ≤ lo) :
    Memory.wfFrom size lo' m = true := by
  cases m with
  | nil => rfl
  | cons c rest =>
    obtain ⟨k, b⟩ := c
    simp only [Memory.wfFrom, Bool.and_eq_true, decide_eq_true_eq] at h ⊢
    exact ⟨⟨⟨by omega, h.1.1.2⟩, h.1.2⟩, h.2⟩

/-- Reading after a write, in a canonical memory. -/
theorem Memory.read_write {size : Nat} {m : Memory} {lo : Nat} (h : Memory.wfFrom size lo m = true) (n k : Nat) (v : Byte) :
    (m.write n v).read k = if n = k then v else m.read k := by
  induction m generalizing lo with
  | nil =>
    by_cases hv : v = Memory.unlisted
    · simp [Memory.write, hv, Memory.read]
    · simp [Memory.write, hv, Memory.read]
  | cons c rest ih =>
    obtain ⟨j, b⟩ := c
    simp only [Memory.wfFrom, Bool.and_eq_true, decide_eq_true_eq] at h
    obtain ⟨⟨⟨hlo, -⟩, -⟩, hrest⟩ := h
    have hbelow : ∀ q, q < j + 1 → Memory.read rest q = 0 := fun q hq => Memory.read_below hrest hq
    have hu : Memory.unlisted = 0 := rfl
    unfold Memory.write
    split
    · split
      · rename_i h1 h2
        by_cases hk : n = k
        · subst hk; rw [Memory.read, if_neg (by omega), if_pos rfl, hbelow n (by omega), h2, hu]
        · simp [hk]
      · simp only [Memory.read]
    · split
      · rename_i h1 h2
        subst h2
        split
        · rename_i h3
          by_cases hk : n = k
          · subst hk; simp [h3, hu, hbelow n (by omega)]
          · simp [Memory.read, hk]
        · by_cases hk : n = k
          · simp [Memory.read, hk]
          · simp [Memory.read, hk]
      · rename_i h1 h2
        simp only [Memory.read, ih hrest]
        by_cases hj : j = k
        · simp [hj, show n ≠ k by omega]
        · simp [hj]

theorem Memory.wfFrom_write {size : Nat} {m : Memory} {lo : Nat} (h : Memory.wfFrom size lo m = true) {n : Nat} (v : Byte)
    (hlo : lo ≤ n) (hn : n < size) : Memory.wfFrom size lo (m.write n v) = true := by
  induction m generalizing lo with
  | nil =>
    unfold Memory.write
    split
    · rfl
    · simp_all [Memory.wfFrom]
  | cons c rest ih =>
    obtain ⟨j, b⟩ := c
    have h' := h
    simp only [Memory.wfFrom, Bool.and_eq_true, decide_eq_true_eq] at h
    obtain ⟨⟨⟨hlo', hsz⟩, hb⟩, hrest⟩ := h
    unfold Memory.write
    split
    · split
      · exact h'
      · simp only [Memory.wfFrom, Bool.and_eq_true, decide_eq_true_eq]
        exact ⟨⟨⟨hlo, hn⟩, by assumption⟩, ⟨⟨by omega, hsz⟩, hb⟩, hrest⟩
    · split
      · split
        · exact Memory.wfFrom_mono hrest (by omega)
        · simp only [Memory.wfFrom, Bool.and_eq_true, decide_eq_true_eq]
          rename_i h1 h2 h3
          subst h2
          exact ⟨⟨⟨hlo', hsz⟩, h3⟩, hrest⟩
      · simp only [Memory.wfFrom, Bool.and_eq_true, decide_eq_true_eq]
        exact ⟨⟨⟨hlo', hsz⟩, hb⟩, ih hrest (by omega)⟩

/-- A write in range keeps the canonical form. -/
theorem Memory.wf_write {size : Nat} {m : Memory} (h : m.wf size = true) {n : Nat} (v : Byte) (hn : n < size) :
    (m.write n v).wf size = true := Memory.wfFrom_write h v (Nat.zero_le _) hn

theorem Memory.read_write_same {size : Nat} {m : Memory} (h : m.wf size = true) (n : Nat) (v : Byte) :
    (m.write n v).read n = v := by rw [Memory.read_write h, if_pos rfl]

theorem Memory.read_write_other {size : Nat} {m : Memory} (h : m.wf size = true) {n k : Nat} (v : Byte) (hk : n ≠ k) :
    (m.write n v).read k = m.read k := by rw [Memory.read_write h, if_neg hk]

theorem Memory.wfFrom_ofBytesFrom (bytes : List Byte) (base lo size : Nat) (hlo : lo ≤ base)
    (hs : base + bytes.length ≤ size) : Memory.wfFrom size lo (Memory.ofBytesFrom base bytes) = true := by
  induction bytes generalizing base lo with
  | nil => rfl
  | cons b rest ih =>
    simp only [List.length_cons] at hs
    unfold Memory.ofBytesFrom
    split
    · exact ih (base + 1) lo (by omega) (by omega)
    · simp only [Memory.wfFrom, Bool.and_eq_true, decide_eq_true_eq]
      exact ⟨⟨⟨hlo, by omega⟩, by assumption⟩, ih (base + 1) (base + 1) le_rfl (by omega)⟩

/-- The memory of a list of bytes is canonical. -/
theorem Memory.wf_ofBytes (bytes : List Byte) (size : Nat) (h : bytes.length ≤ size) :
    (Memory.ofBytes bytes).wf size = true :=
  Memory.wfFrom_ofBytesFrom bytes 0 0 size le_rfl (by omega)

theorem Memory.read_ofBytesFrom_below (bytes : List Byte) (base n : Nat) (h : n < base) :
    (Memory.ofBytesFrom base bytes).read n = 0 :=
  Memory.read_below (Memory.wfFrom_ofBytesFrom bytes base base (base + bytes.length) le_rfl le_rfl) h

theorem Memory.read_ofBytesFrom (bytes : List Byte) (base k : Nat) :
    (Memory.ofBytesFrom base bytes).read (base + k) = bytes.getD k 0 := by
  induction bytes generalizing base k with
  | nil => simp [Memory.ofBytesFrom, Memory.read, Memory.unlisted]
  | cons b rest ih =>
    have hu : Memory.unlisted = 0 := rfl
    unfold Memory.ofBytesFrom
    cases k with
    | zero =>
      split
      · rename_i hb
        rw [Nat.add_zero, Memory.read_ofBytesFrom_below _ _ _ (by omega)]
        simp [hb, hu]
      · simp [Memory.read]
    | succ k =>
      have h1 : base + (k + 1) = base + 1 + k := by omega
      split
      · rw [h1, ih]; simp
      · rw [Memory.read, if_neg (by omega), h1, ih]; simp

/-- The memory of a list of bytes reads the list. -/
theorem Memory.read_ofBytes (bytes : List Byte) (k : Nat) : (Memory.ofBytes bytes).read k = bytes.getD k 0 := by
  have := Memory.read_ofBytesFrom bytes 0 k
  simpa [Memory.ofBytes] using this

end Sys2Proof.Machine
end

