-- ==== Sys2Proof/Laws/Bus.lean ====
section
/-! SUPPORT. What the bus operations can do: the indexes are in range, a read changes devices only, a write changes no
CPU register and not the cartridge (spec/20_memory.md R63 to R65, R73, R79), and the stack is plain RAM. -/

namespace Sys2Proof.Machine

/-! ### Indexes are in range -/

theorem ramIndex_lt (a : Addr) : ramIndex a < ramSize := by
  have h : (a &&& 0x07FF#16).toNat ≤ 0x07FF := by
    rw [BitVec.toNat_and]; exact Nat.and_le_right
  simpa [ramIndex, ramSize] using Nat.lt_succ_of_le h

theorem mapPrgRead_lt (b : PrgBanks) (a : Addr) : mapPrgRead b a < b.size := by
  cases b
  · have h : (a &&& 0x3FFF#16).toNat ≤ 0x3FFF := by rw [BitVec.toNat_and]; exact Nat.and_le_right
    simpa [mapPrgRead, PrgBanks.size] using Nat.lt_succ_of_le h
  · have h : (a &&& 0x7FFF#16).toNat ≤ 0x7FFF := by rw [BitVec.toNat_and]; exact Nat.and_le_right
    simpa [mapPrgRead, PrgBanks.size] using Nat.lt_succ_of_le h

theorem palIndex_lt (a : Addr) : palIndex a < palSize := by
  have h : (a &&& 0x1F#16).toNat ≤ 0x1F := by rw [BitVec.toNat_and]; exact Nat.and_le_right
  have h2 : (a &&& 0x1F#16 &&& 0x0F#16).toNat ≤ 0x0F := by rw [BitVec.toNat_and]; exact Nat.and_le_right
  unfold palIndex palSize
  dsimp only
  split
  · exact Nat.lt_of_le_of_lt h2 (by decide)
  · exact Nat.lt_of_le_of_lt h (by decide)

/-- The nametable index in arithmetic: 1 KiB pages selected by bit 11 (horizontal) or bit 10 (vertical) (R64). -/
theorem vramIndex_eq (m : Mirroring) (a : Addr) :
    vramIndex m a = (match m with | .horizontal => a.toNat / 2048 % 2 | .vertical => a.toNat / 1024 % 2) * 1024
      + a.toNat % 1024 := by
  have hoff : (a &&& 0x0FFF#16 &&& 0x03FF#16).toNat = a.toNat % 1024 := by
    rw [BitVec.toNat_and, BitVec.toNat_and]
    have e1 : (0x0FFF#16).toNat = 2 ^ 12 - 1 := rfl
    have e2 : (0x03FF#16).toNat = 2 ^ 10 - 1 := rfl
    rw [e1, e2, Nat.and_two_pow_sub_one_eq_mod, Nat.and_two_pow_sub_one_eq_mod]
    omega
  have htab : ((a &&& 0x0FFF#16) >>> 10).toNat = a.toNat / 1024 % 4 := by
    rw [BitVec.toNat_ushiftRight, BitVec.toNat_and]
    have e1 : (0x0FFF#16).toNat = 2 ^ 12 - 1 := rfl
    rw [e1, Nat.and_two_pow_sub_one_eq_mod, Nat.shiftRight_eq_div_pow]
    omega
  have hor : ∀ (t o : Nat), o < 1024 → t < 2 → ((t <<< 10) ||| o) = t * 1024 + o := by
    intro t o ho ht
    rw [Nat.shiftLeft_eq]
    have := Nat.two_pow_add_eq_or_of_lt (i := 10) (b := o) (by simpa using ho) t
    rw [Nat.mul_comm] at this
    simpa using this.symm
  cases m
  · have ht : ((a &&& 0x0FFF#16) >>> 10 >>> 1).toNat = a.toNat / 2048 % 2 := by
      rw [BitVec.toNat_ushiftRight, htab, Nat.shiftRight_eq_div_pow]; omega
    simp only [vramIndex, BitVec.toNat_or, BitVec.toNat_shiftLeft]
    rw [hoff, ht, Nat.mod_eq_of_lt, hor _ _ (by omega) (by omega)]
    rw [Nat.shiftLeft_eq]; omega
  · have ht : ((a &&& 0x0FFF#16) >>> 10 &&& 1#16).toNat = a.toNat / 1024 % 2 := by
      rw [BitVec.toNat_and, htab]
      have e1 : (1#16).toNat = 2 ^ 1 - 1 := rfl
      rw [e1, Nat.and_two_pow_sub_one_eq_mod]; omega
    simp only [vramIndex, BitVec.toNat_or, BitVec.toNat_shiftLeft]
    rw [hoff, ht, Nat.mod_eq_of_lt, hor _ _ (by omega) (by omega)]
    rw [Nat.shiftLeft_eq]; omega

theorem vramIndex_lt (m : Mirroring) (a : Addr) : vramIndex m a < vramSize := by
  rw [vramIndex_eq]
  cases m <;> simp only [vramSize] <;> omega

/-! ### A read changes devices only -/

@[simp] theorem ppuRegReadEffect_a (r : PpuReg) (s : State) : (ppuRegReadEffect r s).a = s.a := by cases r <;> rfl
@[simp] theorem busReadEffect_a (b : Addr) (s : State) : (busReadEffect b s).a = s.a := by
  unfold busReadEffect; split <;> simp
@[simp] theorem ppuRegReadEffect_x (r : PpuReg) (s : State) : (ppuRegReadEffect r s).x = s.x := by cases r <;> rfl
@[simp] theorem busReadEffect_x (b : Addr) (s : State) : (busReadEffect b s).x = s.x := by
  unfold busReadEffect; split <;> simp
@[simp] theorem ppuRegReadEffect_y (r : PpuReg) (s : State) : (ppuRegReadEffect r s).y = s.y := by cases r <;> rfl
@[simp] theorem busReadEffect_y (b : Addr) (s : State) : (busReadEffect b s).y = s.y := by
  unfold busReadEffect; split <;> simp
@[simp] theorem ppuRegReadEffect_sp (r : PpuReg) (s : State) : (ppuRegReadEffect r s).sp = s.sp := by cases r <;> rfl
@[simp] theorem busReadEffect_sp (b : Addr) (s : State) : (busReadEffect b s).sp = s.sp := by
  unfold busReadEffect; split <;> simp
@[simp] theorem ppuRegReadEffect_p (r : PpuReg) (s : State) : (ppuRegReadEffect r s).p = s.p := by cases r <;> rfl
@[simp] theorem busReadEffect_p (b : Addr) (s : State) : (busReadEffect b s).p = s.p := by
  unfold busReadEffect; split <;> simp
@[simp] theorem ppuRegReadEffect_pc (r : PpuReg) (s : State) : (ppuRegReadEffect r s).pc = s.pc := by cases r <;> rfl
@[simp] theorem busReadEffect_pc (b : Addr) (s : State) : (busReadEffect b s).pc = s.pc := by
  unfold busReadEffect; split <;> simp
@[simp] theorem ppuRegReadEffect_remaining (r : PpuReg) (s : State) : (ppuRegReadEffect r s).remaining = s.remaining := by cases r <;> rfl
@[simp] theorem busReadEffect_remaining (b : Addr) (s : State) : (busReadEffect b s).remaining = s.remaining := by
  unfold busReadEffect; split <;> simp
@[simp] theorem ppuRegReadEffect_opcode (r : PpuReg) (s : State) : (ppuRegReadEffect r s).opcode = s.opcode := by cases r <;> rfl
@[simp] theorem busReadEffect_opcode (b : Addr) (s : State) : (busReadEffect b s).opcode = s.opcode := by
  unfold busReadEffect; split <;> simp
@[simp] theorem ppuRegReadEffect_fetched (r : PpuReg) (s : State) : (ppuRegReadEffect r s).fetched = s.fetched := by cases r <;> rfl
@[simp] theorem busReadEffect_fetched (b : Addr) (s : State) : (busReadEffect b s).fetched = s.fetched := by
  unfold busReadEffect; split <;> simp
@[simp] theorem ppuRegReadEffect_ea (r : PpuReg) (s : State) : (ppuRegReadEffect r s).ea = s.ea := by cases r <;> rfl
@[simp] theorem busReadEffect_ea (b : Addr) (s : State) : (busReadEffect b s).ea = s.ea := by
  unfold busReadEffect; split <;> simp
@[simp] theorem ppuRegReadEffect_cycles (r : PpuReg) (s : State) : (ppuRegReadEffect r s).cycles = s.cycles := by cases r <;> rfl
@[simp] theorem busReadEffect_cycles (b : Addr) (s : State) : (busReadEffect b s).cycles = s.cycles := by
  unfold busReadEffect; split <;> simp
@[simp] theorem ppuRegReadEffect_instructions (r : PpuReg) (s : State) : (ppuRegReadEffect r s).instructions = s.instructions := by cases r <;> rfl
@[simp] theorem busReadEffect_instructions (b : Addr) (s : State) : (busReadEffect b s).instructions = s.instructions := by
  unfold busReadEffect; split <;> simp
@[simp] theorem ppuRegReadEffect_ram (r : PpuReg) (s : State) : (ppuRegReadEffect r s).ram = s.ram := by cases r <;> rfl
@[simp] theorem busReadEffect_ram (b : Addr) (s : State) : (busReadEffect b s).ram = s.ram := by
  unfold busReadEffect; split <;> simp
@[simp] theorem ppuRegReadEffect_vram (r : PpuReg) (s : State) : (ppuRegReadEffect r s).vram = s.vram := by cases r <;> rfl
@[simp] theorem busReadEffect_vram (b : Addr) (s : State) : (busReadEffect b s).vram = s.vram := by
  unfold busReadEffect; split <;> simp
@[simp] theorem ppuRegReadEffect_pal (r : PpuReg) (s : State) : (ppuRegReadEffect r s).pal = s.pal := by cases r <;> rfl
@[simp] theorem busReadEffect_pal (b : Addr) (s : State) : (busReadEffect b s).pal = s.pal := by
  unfold busReadEffect; split <;> simp
@[simp] theorem ppuRegReadEffect_cart (r : PpuReg) (s : State) : (ppuRegReadEffect r s).cart = s.cart := by cases r <;> rfl
@[simp] theorem busReadEffect_cart (b : Addr) (s : State) : (busReadEffect b s).cart = s.cart := by
  unfold busReadEffect; split <;> simp
@[simp] theorem ppuRegReadEffect_nmiPending (r : PpuReg) (s : State) : (ppuRegReadEffect r s).nmiPending = s.nmiPending := by cases r <;> rfl
@[simp] theorem busReadEffect_nmiPending (b : Addr) (s : State) : (busReadEffect b s).nmiPending = s.nmiPending := by
  unfold busReadEffect; split <;> simp
@[simp] theorem ppuRegReadEffect_master (r : PpuReg) (s : State) : (ppuRegReadEffect r s).master = s.master := by cases r <;> rfl
@[simp] theorem busReadEffect_master (b : Addr) (s : State) : (busReadEffect b s).master = s.master := by
  unfold busReadEffect; split <;> simp
@[simp] theorem ppuRegReadEffect_halted (r : PpuReg) (s : State) : (ppuRegReadEffect r s).halted = s.halted := by cases r <;> rfl
@[simp] theorem busReadEffect_halted (b : Addr) (s : State) : (busReadEffect b s).halted = s.halted := by
  unfold busReadEffect; split <;> simp
@[simp] theorem ppuRegReadEffect_fault (r : PpuReg) (s : State) : (ppuRegReadEffect r s).fault = s.fault := by cases r <;> rfl
@[simp] theorem busReadEffect_fault (b : Addr) (s : State) : (busReadEffect b s).fault = s.fault := by
  unfold busReadEffect; split <;> simp
@[simp] theorem ppuRegReadEffect_romWriteSeen (r : PpuReg) (s : State) : (ppuRegReadEffect r s).romWriteSeen = s.romWriteSeen := by cases r <;> rfl
@[simp] theorem busReadEffect_romWriteSeen (b : Addr) (s : State) : (busReadEffect b s).romWriteSeen = s.romWriteSeen := by
  unfold busReadEffect; split <;> simp
@[simp] theorem ppuRegReadEffect_irqLine (r : PpuReg) (s : State) : (ppuRegReadEffect r s).irqLine = s.irqLine := by cases r <;> rfl
@[simp] theorem busReadEffect_irqLine (b : Addr) (s : State) : (busReadEffect b s).irqLine = s.irqLine := by
  unfold busReadEffect; split <;> simp
@[simp] theorem ppuRegReadEffect_params (r : PpuReg) (s : State) : (ppuRegReadEffect r s).params = s.params := by cases r <;> rfl
@[simp] theorem busReadEffect_params (b : Addr) (s : State) : (busReadEffect b s).params = s.params := by
  unfold busReadEffect; split <;> simp
@[simp] theorem ppuRegReadEffect_ppu_scanline (r : PpuReg) (s : State) : (ppuRegReadEffect r s).ppu.scanline = s.ppu.scanline := by cases r <;> rfl
@[simp] theorem busReadEffect_ppu_scanline (b : Addr) (s : State) : (busReadEffect b s).ppu.scanline = s.ppu.scanline := by
  unfold busReadEffect; split <;> simp
@[simp] theorem ppuRegReadEffect_ppu_dot (r : PpuReg) (s : State) : (ppuRegReadEffect r s).ppu.dot = s.ppu.dot := by cases r <;> rfl
@[simp] theorem busReadEffect_ppu_dot (b : Addr) (s : State) : (busReadEffect b s).ppu.dot = s.ppu.dot := by
  unfold busReadEffect; split <;> simp
@[simp] theorem ppuRegReadEffect_ppu_frameComplete (r : PpuReg) (s : State) : (ppuRegReadEffect r s).ppu.frameComplete = s.ppu.frameComplete := by cases r <;> rfl
@[simp] theorem busReadEffect_ppu_frameComplete (b : Addr) (s : State) : (busReadEffect b s).ppu.frameComplete = s.ppu.frameComplete := by
  unfold busReadEffect; split <;> simp
@[simp] theorem ppuRegReadEffect_ppu_frameCount (r : PpuReg) (s : State) : (ppuRegReadEffect r s).ppu.frameCount = s.ppu.frameCount := by cases r <;> rfl
@[simp] theorem busReadEffect_ppu_frameCount (b : Addr) (s : State) : (busReadEffect b s).ppu.frameCount = s.ppu.frameCount := by
  unfold busReadEffect; split <;> simp
@[simp] theorem ppuRegReadEffect_ppu_ctrl (r : PpuReg) (s : State) : (ppuRegReadEffect r s).ppu.ctrl = s.ppu.ctrl := by cases r <;> rfl
@[simp] theorem busReadEffect_ppu_ctrl (b : Addr) (s : State) : (busReadEffect b s).ppu.ctrl = s.ppu.ctrl := by
  unfold busReadEffect; split <;> simp
@[simp] theorem ppuRegReadEffect_ppu_mask (r : PpuReg) (s : State) : (ppuRegReadEffect r s).ppu.mask = s.ppu.mask := by cases r <;> rfl
@[simp] theorem busReadEffect_ppu_mask (b : Addr) (s : State) : (busReadEffect b s).ppu.mask = s.ppu.mask := by
  unfold busReadEffect; split <;> simp
@[simp] theorem ppuRegReadEffect_ppu_t (r : PpuReg) (s : State) : (ppuRegReadEffect r s).ppu.t = s.ppu.t := by cases r <;> rfl
@[simp] theorem busReadEffect_ppu_t (b : Addr) (s : State) : (busReadEffect b s).ppu.t = s.ppu.t := by
  unfold busReadEffect; split <;> simp
@[simp] theorem ppuRegReadEffect_ppu_x (r : PpuReg) (s : State) : (ppuRegReadEffect r s).ppu.x = s.ppu.x := by cases r <;> rfl
@[simp] theorem busReadEffect_ppu_x (b : Addr) (s : State) : (busReadEffect b s).ppu.x = s.ppu.x := by
  unfold busReadEffect; split <;> simp

/-- Outside the PPU window and the two controller ports a read changes nothing (R79). -/
theorem busReadEffect_of_plain {b : Addr} (s : State)
    (h : regionOf b ≠ .ppuRegs ∧ regionOf b ≠ .controller1 ∧ regionOf b ≠ .controller2) : busReadEffect b s = s := by
  obtain ⟨h1, h2, h3⟩ := h
  unfold busReadEffect; split <;> simp_all

theorem busReadEffect_of_ram {b : Addr} (s : State) (h : regionOf b = .ram) : busReadEffect b s = s :=
  busReadEffect_of_plain s (by simp [h])

theorem busReadEffect_of_prgRom {b : Addr} (s : State) (h : regionOf b = .prgRom) : busReadEffect b s = s :=
  busReadEffect_of_plain s (by simp [h])

/-! ### A write changes no CPU register and not the cartridge -/

@[simp] theorem recordFault_a (f : Fault) (s : State) : (recordFault f s).a = s.a := by
  unfold recordFault; split <;> rfl
@[simp] theorem raiseRomWrite_a (u : Bus) (b : Addr) (v : Byte) (s : State) : (raiseRomWrite u b v s).a = s.a := by
  unfold raiseRomWrite; split <;> simp
@[simp] theorem ppuWrite_a (b : Addr) (v : Byte) (s : State) : (ppuWrite b v s).a = s.a := by
  unfold ppuWrite mapChrWrite; split <;> simp
@[simp] theorem ppuRegWrite_a (r : PpuReg) (v : Byte) (s : State) : (ppuRegWrite r v s).a = s.a := by
  cases r <;> simp [ppuRegWrite, writePpuCtrl, writePpuMask, writePpuScroll, writePpuAddr, writePpuData] <;> split <;> rfl
@[simp] theorem memWrite_a (b : Addr) (v : Byte) (s : State) : (memWrite b v s).a = s.a := by
  unfold memWrite mapPrgWrite ctlStrobe; split <;> simp
@[simp] theorem recordFault_x (f : Fault) (s : State) : (recordFault f s).x = s.x := by
  unfold recordFault; split <;> rfl
@[simp] theorem raiseRomWrite_x (u : Bus) (b : Addr) (v : Byte) (s : State) : (raiseRomWrite u b v s).x = s.x := by
  unfold raiseRomWrite; split <;> simp
@[simp] theorem ppuWrite_x (b : Addr) (v : Byte) (s : State) : (ppuWrite b v s).x = s.x := by
  unfold ppuWrite mapChrWrite; split <;> simp
@[simp] theorem ppuRegWrite_x (r : PpuReg) (v : Byte) (s : State) : (ppuRegWrite r v s).x = s.x := by
  cases r <;> simp [ppuRegWrite, writePpuCtrl, writePpuMask, writePpuScroll, writePpuAddr, writePpuData] <;> split <;> rfl
@[simp] theorem memWrite_x (b : Addr) (v : Byte) (s : State) : (memWrite b v s).x = s.x := by
  unfold memWrite mapPrgWrite ctlStrobe; split <;> simp
@[simp] theorem recordFault_y (f : Fault) (s : State) : (recordFault f s).y = s.y := by
  unfold recordFault; split <;> rfl
@[simp] theorem raiseRomWrite_y (u : Bus) (b : Addr) (v : Byte) (s : State) : (raiseRomWrite u b v s).y = s.y := by
  unfold raiseRomWrite; split <;> simp
@[simp] theorem ppuWrite_y (b : Addr) (v : Byte) (s : State) : (ppuWrite b v s).y = s.y := by
  unfold ppuWrite mapChrWrite; split <;> simp
@[simp] theorem ppuRegWrite_y (r : PpuReg) (v : Byte) (s : State) : (ppuRegWrite r v s).y = s.y := by
  cases r <;> simp [ppuRegWrite, writePpuCtrl, writePpuMask, writePpuScroll, writePpuAddr, writePpuData] <;> split <;> rfl
@[simp] theorem memWrite_y (b : Addr) (v : Byte) (s : State) : (memWrite b v s).y = s.y := by
  unfold memWrite mapPrgWrite ctlStrobe; split <;> simp
@[simp] theorem recordFault_sp (f : Fault) (s : State) : (recordFault f s).sp = s.sp := by
  unfold recordFault; split <;> rfl
@[simp] theorem raiseRomWrite_sp (u : Bus) (b : Addr) (v : Byte) (s : State) : (raiseRomWrite u b v s).sp = s.sp := by
  unfold raiseRomWrite; split <;> simp
@[simp] theorem ppuWrite_sp (b : Addr) (v : Byte) (s : State) : (ppuWrite b v s).sp = s.sp := by
  unfold ppuWrite mapChrWrite; split <;> simp
@[simp] theorem ppuRegWrite_sp (r : PpuReg) (v : Byte) (s : State) : (ppuRegWrite r v s).sp = s.sp := by
  cases r <;> simp [ppuRegWrite, writePpuCtrl, writePpuMask, writePpuScroll, writePpuAddr, writePpuData] <;> split <;> rfl
@[simp] theorem memWrite_sp (b : Addr) (v : Byte) (s : State) : (memWrite b v s).sp = s.sp := by
  unfold memWrite mapPrgWrite ctlStrobe; split <;> simp
@[simp] theorem recordFault_p (f : Fault) (s : State) : (recordFault f s).p = s.p := by
  unfold recordFault; split <;> rfl
@[simp] theorem raiseRomWrite_p (u : Bus) (b : Addr) (v : Byte) (s : State) : (raiseRomWrite u b v s).p = s.p := by
  unfold raiseRomWrite; split <;> simp
@[simp] theorem ppuWrite_p (b : Addr) (v : Byte) (s : State) : (ppuWrite b v s).p = s.p := by
  unfold ppuWrite mapChrWrite; split <;> simp
@[simp] theorem ppuRegWrite_p (r : PpuReg) (v : Byte) (s : State) : (ppuRegWrite r v s).p = s.p := by
  cases r <;> simp [ppuRegWrite, writePpuCtrl, writePpuMask, writePpuScroll, writePpuAddr, writePpuData] <;> split <;> rfl
@[simp] theorem memWrite_p (b : Addr) (v : Byte) (s : State) : (memWrite b v s).p = s.p := by
  unfold memWrite mapPrgWrite ctlStrobe; split <;> simp
@[simp] theorem recordFault_pc (f : Fault) (s : State) : (recordFault f s).pc = s.pc := by
  unfold recordFault; split <;> rfl
@[simp] theorem raiseRomWrite_pc (u : Bus) (b : Addr) (v : Byte) (s : State) : (raiseRomWrite u b v s).pc = s.pc := by
  unfold raiseRomWrite; split <;> simp
@[simp] theorem ppuWrite_pc (b : Addr) (v : Byte) (s : State) : (ppuWrite b v s).pc = s.pc := by
  unfold ppuWrite mapChrWrite; split <;> simp
@[simp] theorem ppuRegWrite_pc (r : PpuReg) (v : Byte) (s : State) : (ppuRegWrite r v s).pc = s.pc := by
  cases r <;> simp [ppuRegWrite, writePpuCtrl, writePpuMask, writePpuScroll, writePpuAddr, writePpuData] <;> split <;> rfl
@[simp] theorem memWrite_pc (b : Addr) (v : Byte) (s : State) : (memWrite b v s).pc = s.pc := by
  unfold memWrite mapPrgWrite ctlStrobe; split <;> simp
@[simp] theorem recordFault_remaining (f : Fault) (s : State) : (recordFault f s).remaining = s.remaining := by
  unfold recordFault; split <;> rfl
@[simp] theorem raiseRomWrite_remaining (u : Bus) (b : Addr) (v : Byte) (s : State) : (raiseRomWrite u b v s).remaining = s.remaining := by
  unfold raiseRomWrite; split <;> simp
@[simp] theorem ppuWrite_remaining (b : Addr) (v : Byte) (s : State) : (ppuWrite b v s).remaining = s.remaining := by
  unfold ppuWrite mapChrWrite; split <;> simp
@[simp] theorem ppuRegWrite_remaining (r : PpuReg) (v : Byte) (s : State) : (ppuRegWrite r v s).remaining = s.remaining := by
  cases r <;> simp [ppuRegWrite, writePpuCtrl, writePpuMask, writePpuScroll, writePpuAddr, writePpuData] <;> split <;> rfl
@[simp] theorem memWrite_remaining (b : Addr) (v : Byte) (s : State) : (memWrite b v s).remaining = s.remaining := by
  unfold memWrite mapPrgWrite ctlStrobe; split <;> simp
@[simp] theorem recordFault_opcode (f : Fault) (s : State) : (recordFault f s).opcode = s.opcode := by
  unfold recordFault; split <;> rfl
@[simp] theorem raiseRomWrite_opcode (u : Bus) (b : Addr) (v : Byte) (s : State) : (raiseRomWrite u b v s).opcode = s.opcode := by
  unfold raiseRomWrite; split <;> simp
@[simp] theorem ppuWrite_opcode (b : Addr) (v : Byte) (s : State) : (ppuWrite b v s).opcode = s.opcode := by
  unfold ppuWrite mapChrWrite; split <;> simp
@[simp] theorem ppuRegWrite_opcode (r : PpuReg) (v : Byte) (s : State) : (ppuRegWrite r v s).opcode = s.opcode := by
  cases r <;> simp [ppuRegWrite, writePpuCtrl, writePpuMask, writePpuScroll, writePpuAddr, writePpuData] <;> split <;> rfl
@[simp] theorem memWrite_opcode (b : Addr) (v : Byte) (s : State) : (memWrite b v s).opcode = s.opcode := by
  unfold memWrite mapPrgWrite ctlStrobe; split <;> simp
@[simp] theorem recordFault_fetched (f : Fault) (s : State) : (recordFault f s).fetched = s.fetched := by
  unfold recordFault; split <;> rfl
@[simp] theorem raiseRomWrite_fetched (u : Bus) (b : Addr) (v : Byte) (s : State) : (raiseRomWrite u b v s).fetched = s.fetched := by
  unfold raiseRomWrite; split <;> simp
@[simp] theorem ppuWrite_fetched (b : Addr) (v : Byte) (s : State) : (ppuWrite b v s).fetched = s.fetched := by
  unfold ppuWrite mapChrWrite; split <;> simp
@[simp] theorem ppuRegWrite_fetched (r : PpuReg) (v : Byte) (s : State) : (ppuRegWrite r v s).fetched = s.fetched := by
  cases r <;> simp [ppuRegWrite, writePpuCtrl, writePpuMask, writePpuScroll, writePpuAddr, writePpuData] <;> split <;> rfl
@[simp] theorem memWrite_fetched (b : Addr) (v : Byte) (s : State) : (memWrite b v s).fetched = s.fetched := by
  unfold memWrite mapPrgWrite ctlStrobe; split <;> simp
@[simp] theorem recordFault_ea (f : Fault) (s : State) : (recordFault f s).ea = s.ea := by
  unfold recordFault; split <;> rfl
@[simp] theorem raiseRomWrite_ea (u : Bus) (b : Addr) (v : Byte) (s : State) : (raiseRomWrite u b v s).ea = s.ea := by
  unfold raiseRomWrite; split <;> simp
@[simp] theorem ppuWrite_ea (b : Addr) (v : Byte) (s : State) : (ppuWrite b v s).ea = s.ea := by
  unfold ppuWrite mapChrWrite; split <;> simp
@[simp] theorem ppuRegWrite_ea (r : PpuReg) (v : Byte) (s : State) : (ppuRegWrite r v s).ea = s.ea := by
  cases r <;> simp [ppuRegWrite, writePpuCtrl, writePpuMask, writePpuScroll, writePpuAddr, writePpuData] <;> split <;> rfl
@[simp] theorem memWrite_ea (b : Addr) (v : Byte) (s : State) : (memWrite b v s).ea = s.ea := by
  unfold memWrite mapPrgWrite ctlStrobe; split <;> simp
@[simp] theorem recordFault_cycles (f : Fault) (s : State) : (recordFault f s).cycles = s.cycles := by
  unfold recordFault; split <;> rfl
@[simp] theorem raiseRomWrite_cycles (u : Bus) (b : Addr) (v : Byte) (s : State) : (raiseRomWrite u b v s).cycles = s.cycles := by
  unfold raiseRomWrite; split <;> simp
@[simp] theorem ppuWrite_cycles (b : Addr) (v : Byte) (s : State) : (ppuWrite b v s).cycles = s.cycles := by
  unfold ppuWrite mapChrWrite; split <;> simp
@[simp] theorem ppuRegWrite_cycles (r : PpuReg) (v : Byte) (s : State) : (ppuRegWrite r v s).cycles = s.cycles := by
  cases r <;> simp [ppuRegWrite, writePpuCtrl, writePpuMask, writePpuScroll, writePpuAddr, writePpuData] <;> split <;> rfl
@[simp] theorem memWrite_cycles (b : Addr) (v : Byte) (s : State) : (memWrite b v s).cycles = s.cycles := by
  unfold memWrite mapPrgWrite ctlStrobe; split <;> simp
@[simp] theorem recordFault_instructions (f : Fault) (s : State) : (recordFault f s).instructions = s.instructions := by
  unfold recordFault; split <;> rfl
@[simp] theorem raiseRomWrite_instructions (u : Bus) (b : Addr) (v : Byte) (s : State) : (raiseRomWrite u b v s).instructions = s.instructions := by
  unfold raiseRomWrite; split <;> simp
@[simp] theorem ppuWrite_instructions (b : Addr) (v : Byte) (s : State) : (ppuWrite b v s).instructions = s.instructions := by
  unfold ppuWrite mapChrWrite; split <;> simp
@[simp] theorem ppuRegWrite_instructions (r : PpuReg) (v : Byte) (s : State) : (ppuRegWrite r v s).instructions = s.instructions := by
  cases r <;> simp [ppuRegWrite, writePpuCtrl, writePpuMask, writePpuScroll, writePpuAddr, writePpuData] <;> split <;> rfl
@[simp] theorem memWrite_instructions (b : Addr) (v : Byte) (s : State) : (memWrite b v s).instructions = s.instructions := by
  unfold memWrite mapPrgWrite ctlStrobe; split <;> simp
@[simp] theorem recordFault_cart (f : Fault) (s : State) : (recordFault f s).cart = s.cart := by
  unfold recordFault; split <;> rfl
@[simp] theorem raiseRomWrite_cart (u : Bus) (b : Addr) (v : Byte) (s : State) : (raiseRomWrite u b v s).cart = s.cart := by
  unfold raiseRomWrite; split <;> simp
@[simp] theorem ppuWrite_cart (b : Addr) (v : Byte) (s : State) : (ppuWrite b v s).cart = s.cart := by
  unfold ppuWrite mapChrWrite; split <;> simp
@[simp] theorem ppuRegWrite_cart (r : PpuReg) (v : Byte) (s : State) : (ppuRegWrite r v s).cart = s.cart := by
  cases r <;> simp [ppuRegWrite, writePpuCtrl, writePpuMask, writePpuScroll, writePpuAddr, writePpuData] <;> split <;> rfl
@[simp] theorem memWrite_cart (b : Addr) (v : Byte) (s : State) : (memWrite b v s).cart = s.cart := by
  unfold memWrite mapPrgWrite ctlStrobe; split <;> simp
@[simp] theorem recordFault_nmiPending (f : Fault) (s : State) : (recordFault f s).nmiPending = s.nmiPending := by
  unfold recordFault; split <;> rfl
@[simp] theorem raiseRomWrite_nmiPending (u : Bus) (b : Addr) (v : Byte) (s : State) : (raiseRomWrite u b v s).nmiPending = s.nmiPending := by
  unfold raiseRomWrite; split <;> simp
@[simp] theorem ppuWrite_nmiPending (b : Addr) (v : Byte) (s : State) : (ppuWrite b v s).nmiPending = s.nmiPending := by
  unfold ppuWrite mapChrWrite; split <;> simp
@[simp] theorem ppuRegWrite_nmiPending (r : PpuReg) (v : Byte) (s : State) : (ppuRegWrite r v s).nmiPending = s.nmiPending := by
  cases r <;> simp [ppuRegWrite, writePpuCtrl, writePpuMask, writePpuScroll, writePpuAddr, writePpuData] <;> split <;> rfl
@[simp] theorem memWrite_nmiPending (b : Addr) (v : Byte) (s : State) : (memWrite b v s).nmiPending = s.nmiPending := by
  unfold memWrite mapPrgWrite ctlStrobe; split <;> simp
@[simp] theorem recordFault_master (f : Fault) (s : State) : (recordFault f s).master = s.master := by
  unfold recordFault; split <;> rfl
@[simp] theorem raiseRomWrite_master (u : Bus) (b : Addr) (v : Byte) (s : State) : (raiseRomWrite u b v s).master = s.master := by
  unfold raiseRomWrite; split <;> simp
@[simp] theorem ppuWrite_master (b : Addr) (v : Byte) (s : State) : (ppuWrite b v s).master = s.master := by
  unfold ppuWrite mapChrWrite; split <;> simp
@[simp] theorem ppuRegWrite_master (r : PpuReg) (v : Byte) (s : State) : (ppuRegWrite r v s).master = s.master := by
  cases r <;> simp [ppuRegWrite, writePpuCtrl, writePpuMask, writePpuScroll, writePpuAddr, writePpuData] <;> split <;> rfl
@[simp] theorem memWrite_master (b : Addr) (v : Byte) (s : State) : (memWrite b v s).master = s.master := by
  unfold memWrite mapPrgWrite ctlStrobe; split <;> simp
@[simp] theorem recordFault_irqLine (f : Fault) (s : State) : (recordFault f s).irqLine = s.irqLine := by
  unfold recordFault; split <;> rfl
@[simp] theorem raiseRomWrite_irqLine (u : Bus) (b : Addr) (v : Byte) (s : State) : (raiseRomWrite u b v s).irqLine = s.irqLine := by
  unfold raiseRomWrite; split <;> simp
@[simp] theorem ppuWrite_irqLine (b : Addr) (v : Byte) (s : State) : (ppuWrite b v s).irqLine = s.irqLine := by
  unfold ppuWrite mapChrWrite; split <;> simp
@[simp] theorem ppuRegWrite_irqLine (r : PpuReg) (v : Byte) (s : State) : (ppuRegWrite r v s).irqLine = s.irqLine := by
  cases r <;> simp [ppuRegWrite, writePpuCtrl, writePpuMask, writePpuScroll, writePpuAddr, writePpuData] <;> split <;> rfl
@[simp] theorem memWrite_irqLine (b : Addr) (v : Byte) (s : State) : (memWrite b v s).irqLine = s.irqLine := by
  unfold memWrite mapPrgWrite ctlStrobe; split <;> simp
@[simp] theorem recordFault_params (f : Fault) (s : State) : (recordFault f s).params = s.params := by
  unfold recordFault; split <;> rfl
@[simp] theorem raiseRomWrite_params (u : Bus) (b : Addr) (v : Byte) (s : State) : (raiseRomWrite u b v s).params = s.params := by
  unfold raiseRomWrite; split <;> simp
@[simp] theorem ppuWrite_params (b : Addr) (v : Byte) (s : State) : (ppuWrite b v s).params = s.params := by
  unfold ppuWrite mapChrWrite; split <;> simp
@[simp] theorem ppuRegWrite_params (r : PpuReg) (v : Byte) (s : State) : (ppuRegWrite r v s).params = s.params := by
  cases r <;> simp [ppuRegWrite, writePpuCtrl, writePpuMask, writePpuScroll, writePpuAddr, writePpuData] <;> split <;> rfl
@[simp] theorem memWrite_params (b : Addr) (v : Byte) (s : State) : (memWrite b v s).params = s.params := by
  unfold memWrite mapPrgWrite ctlStrobe; split <;> simp
@[simp] theorem recordFault_ppu (f : Fault) (s : State) : (recordFault f s).ppu = s.ppu := by
  unfold recordFault; split <;> rfl
@[simp] theorem raiseRomWrite_ppu (u : Bus) (b : Addr) (v : Byte) (s : State) : (raiseRomWrite u b v s).ppu = s.ppu := by
  unfold raiseRomWrite; split <;> simp
@[simp] theorem recordFault_ctl0 (f : Fault) (s : State) : (recordFault f s).ctl0 = s.ctl0 := by
  unfold recordFault; split <;> rfl
@[simp] theorem raiseRomWrite_ctl0 (u : Bus) (b : Addr) (v : Byte) (s : State) : (raiseRomWrite u b v s).ctl0 = s.ctl0 := by
  unfold raiseRomWrite; split <;> simp
@[simp] theorem recordFault_ctl1 (f : Fault) (s : State) : (recordFault f s).ctl1 = s.ctl1 := by
  unfold recordFault; split <;> rfl
@[simp] theorem raiseRomWrite_ctl1 (u : Bus) (b : Addr) (v : Byte) (s : State) : (raiseRomWrite u b v s).ctl1 = s.ctl1 := by
  unfold raiseRomWrite; split <;> simp
@[simp] theorem recordFault_ram (f : Fault) (s : State) : (recordFault f s).ram = s.ram := by
  unfold recordFault; split <;> rfl
@[simp] theorem raiseRomWrite_ram (u : Bus) (b : Addr) (v : Byte) (s : State) : (raiseRomWrite u b v s).ram = s.ram := by
  unfold raiseRomWrite; split <;> simp
@[simp] theorem recordFault_vram (f : Fault) (s : State) : (recordFault f s).vram = s.vram := by
  unfold recordFault; split <;> rfl
@[simp] theorem raiseRomWrite_vram (u : Bus) (b : Addr) (v : Byte) (s : State) : (raiseRomWrite u b v s).vram = s.vram := by
  unfold raiseRomWrite; split <;> simp
@[simp] theorem recordFault_pal (f : Fault) (s : State) : (recordFault f s).pal = s.pal := by
  unfold recordFault; split <;> rfl
@[simp] theorem raiseRomWrite_pal (u : Bus) (b : Addr) (v : Byte) (s : State) : (raiseRomWrite u b v s).pal = s.pal := by
  unfold raiseRomWrite; split <;> simp
@[simp] theorem ppuWrite_ppu (b : Addr) (v : Byte) (s : State) : (ppuWrite b v s).ppu = s.ppu := by
  unfold ppuWrite mapChrWrite; split <;> simp
@[simp] theorem ppuWrite_ctl0 (b : Addr) (v : Byte) (s : State) : (ppuWrite b v s).ctl0 = s.ctl0 := by
  unfold ppuWrite mapChrWrite; split <;> simp
@[simp] theorem ppuWrite_ctl1 (b : Addr) (v : Byte) (s : State) : (ppuWrite b v s).ctl1 = s.ctl1 := by
  unfold ppuWrite mapChrWrite; split <;> simp
@[simp] theorem ppuWrite_ram (b : Addr) (v : Byte) (s : State) : (ppuWrite b v s).ram = s.ram := by
  unfold ppuWrite mapChrWrite; split <;> simp
@[simp] theorem ppuRegWrite_ppu_scanline (r : PpuReg) (v : Byte) (s : State) : (ppuRegWrite r v s).ppu.scanline = s.ppu.scanline := by
  cases r <;> simp [ppuRegWrite, writePpuCtrl, writePpuMask, writePpuScroll, writePpuAddr, writePpuData] <;> split <;> rfl
@[simp] theorem memWrite_ppu_scanline (b : Addr) (v : Byte) (s : State) : (memWrite b v s).ppu.scanline = s.ppu.scanline := by
  unfold memWrite mapPrgWrite ctlStrobe; split <;> simp
@[simp] theorem ppuRegWrite_ppu_dot (r : PpuReg) (v : Byte) (s : State) : (ppuRegWrite r v s).ppu.dot = s.ppu.dot := by
  cases r <;> simp [ppuRegWrite, writePpuCtrl, writePpuMask, writePpuScroll, writePpuAddr, writePpuData] <;> split <;> rfl
@[simp] theorem memWrite_ppu_dot (b : Addr) (v : Byte) (s : State) : (memWrite b v s).ppu.dot = s.ppu.dot := by
  unfold memWrite mapPrgWrite ctlStrobe; split <;> simp
@[simp] theorem ppuRegWrite_ppu_frameComplete (r : PpuReg) (v : Byte) (s : State) : (ppuRegWrite r v s).ppu.frameComplete = s.ppu.frameComplete := by
  cases r <;> simp [ppuRegWrite, writePpuCtrl, writePpuMask, writePpuScroll, writePpuAddr, writePpuData] <;> split <;> rfl
@[simp] theorem memWrite_ppu_frameComplete (b : Addr) (v : Byte) (s : State) : (memWrite b v s).ppu.frameComplete = s.ppu.frameComplete := by
  unfold memWrite mapPrgWrite ctlStrobe; split <;> simp
@[simp] theorem ppuRegWrite_ppu_frameCount (r : PpuReg) (v : Byte) (s : State) : (ppuRegWrite r v s).ppu.frameCount = s.ppu.frameCount := by
  cases r <;> simp [ppuRegWrite, writePpuCtrl, writePpuMask, writePpuScroll, writePpuAddr, writePpuData] <;> split <;> rfl
@[simp] theorem memWrite_ppu_frameCount (b : Addr) (v : Byte) (s : State) : (memWrite b v s).ppu.frameCount = s.ppu.frameCount := by
  unfold memWrite mapPrgWrite ctlStrobe; split <;> simp
@[simp] theorem ppuRegWrite_ppu_status (r : PpuReg) (v : Byte) (s : State) : (ppuRegWrite r v s).ppu.status = s.ppu.status := by
  cases r <;> simp [ppuRegWrite, writePpuCtrl, writePpuMask, writePpuScroll, writePpuAddr, writePpuData] <;> split <;> rfl
@[simp] theorem memWrite_ppu_status (b : Addr) (v : Byte) (s : State) : (memWrite b v s).ppu.status = s.ppu.status := by
  unfold memWrite mapPrgWrite ctlStrobe; split <;> simp

theorem memWrite_of_ram {b : Addr} (v : Byte) (s : State) (h : regionOf b = .ram) :
    memWrite b v s = { s with ram := s.ram.write (ramIndex b) v } := by unfold memWrite; rw [h]

/-! ### The stack is plain RAM -/

theorem stackAddr_toNat (sp : Byte) : (stackAddr sp).toNat = 256 + sp.toNat := by
  have hsp : sp.toNat < 2 ^ 8 := sp.isLt
  have h := Nat.two_pow_add_eq_or_of_lt hsp 1
  simp only [stackAddr, BitVec.toNat_or, BitVec.toNat_setWidth]
  rw [Nat.mod_eq_of_lt (by omega)]
  simpa using h.symm

@[simp] theorem regionOf_stackAddr (sp : Byte) : regionOf (stackAddr sp) = .ram := by
  have h := stackAddr_toNat sp
  have hsp : sp.toNat < 256 := sp.isLt
  unfold regionOf
  rw [if_pos]
  rw [BitVec.lt_def, h]
  simp; omega

@[simp] theorem ramIndex_stackAddr (sp : Byte) : ramIndex (stackAddr sp) = 256 + sp.toNat := by
  have hsp : sp.toNat < 256 := sp.isLt
  unfold ramIndex
  rw [BitVec.toNat_and, stackAddr_toNat]
  have e : (0x07FF#16).toNat = 2 ^ 11 - 1 := rfl
  rw [e, Nat.and_two_pow_sub_one_eq_mod, Nat.mod_eq_of_lt (by omega)]

/-- A push stores one byte in the stack page and decrements SP (10_state.md R22). -/
theorem push_eq (v : Byte) (s : State) :
    push v s = { s with ram := s.ram.write (256 + s.sp.toNat) v, sp := s.sp - 1 } := by
  unfold push
  rw [memWrite_of_ram v s (regionOf_stackAddr s.sp)]
  simp [setSp]

/-- A pull increments SP and reads one byte of the stack page. -/
theorem pull_eq (s : State) :
    pull s = (s.ram.read (256 + (s.sp + 1).toNat), { s with sp := s.sp + 1 }) := by
  unfold pull memRead
  simp only [setSp_sp, busReadEffect_of_ram _ (regionOf_stackAddr _)]
  simp [busValue, setSp]

/-! ### The PPU bus decoder in numbers (20_memory.md R77) -/

theorem ppuBusAddr_toNat (a : Addr) : (ppuBusAddr a).toNat = a.toNat % 16384 := by
  unfold ppuBusAddr
  rw [BitVec.toNat_and, show (0x3FFF#16).toNat = 2 ^ 14 - 1 from rfl, Nat.and_two_pow_sub_one_eq_mod]

theorem ppuRegion_pattern_iff (a : Addr) : ppuRegion (ppuBusAddr a) = .pattern ↔ a.toNat % 16384 < 0x2000 := by
  unfold ppuRegion
  simp only [BitVec.lt_def, ppuBusAddr_toNat, BitVec.toNat_ofNat]
  split <;> [skip; split] <;> simp <;> omega

theorem ppuRegion_nametable_iff (a : Addr) :
    ppuRegion (ppuBusAddr a) = .nametable ↔ 0x2000 ≤ a.toNat % 16384 ∧ a.toNat % 16384 < 0x3F00 := by
  unfold ppuRegion
  simp only [BitVec.lt_def, ppuBusAddr_toNat, BitVec.toNat_ofNat]
  split <;> [skip; split] <;> simp <;> omega

theorem ppuRegion_palette_iff (a : Addr) : ppuRegion (ppuBusAddr a) = .palette ↔ 0x3F00 ≤ a.toNat % 16384 := by
  unfold ppuRegion
  simp only [BitVec.lt_def, ppuBusAddr_toNat, BitVec.toNat_ofNat]
  split <;> [skip; split] <;> simp <;> omega

end Sys2Proof.Machine
end

