-- ==== Sys2Proof/Laws/Commute.lean ====
section
/-! SUPPORT. Bus accesses commute with updates of the CPU's registers: no access reads or writes one. With these an
instruction's result is the accesses of the old state under register updates. -/

namespace Sys2Proof.Machine

@[simp] theorem ppuRead_setA (b : Addr) (v : Byte) (s : State) : ppuRead b (setA v s) = ppuRead b s := rfl
@[simp] theorem ppuRegReadEffect_setA (r : PpuReg) (v : Byte) (s : State) :
    ppuRegReadEffect r (setA v s) = setA v (ppuRegReadEffect r s) := by
  cases r <;> rfl
@[simp] theorem busReadEffect_setA (b : Addr) (v : Byte) (s : State) :
    busReadEffect b (setA v s) = setA v (busReadEffect b s) := by
  unfold busReadEffect; split <;> first | rfl | simp
@[simp] theorem recordFault_setA (f : Fault) (v : Byte) (s : State) :
    recordFault f (setA v s) = setA v (recordFault f s) := by
  unfold recordFault; simp only [setA_fault]; split <;> rfl
@[simp] theorem raiseRomWrite_setA (u : Bus) (b : Addr) (d : Byte) (v : Byte) (s : State) :
    raiseRomWrite u b d (setA v s) = setA v (raiseRomWrite u b d s) := by
  unfold raiseRomWrite; simp only [setA_params, recordFault_setA]; split <;> rfl
@[simp] theorem ppuWrite_setA (b : Addr) (d : Byte) (v : Byte) (s : State) :
    ppuWrite b d (setA v s) = setA v (ppuWrite b d s) := by
  unfold ppuWrite mapChrWrite; split <;> first | rfl | simp
@[simp] theorem ppuRegWrite_setA (r : PpuReg) (d : Byte) (v : Byte) (s : State) :
    ppuRegWrite r d (setA v s) = setA v (ppuRegWrite r d s) := by
  cases r <;> first
    | rfl
    | (simp only [ppuRegWrite, writePpuData, setA_ppu, ppuWrite_setA]; rfl)
    | (by_cases hw : s.ppu.w = true <;> simp only [ppuRegWrite, writePpuScroll, writePpuAddr, setA_ppu, hw, if_true, if_false, Bool.false_eq_true] <;> rfl)
@[simp] theorem memWrite_setA (b : Addr) (d : Byte) (v : Byte) (s : State) :
    memWrite b d (setA v s) = setA v (memWrite b d s) := by
  unfold memWrite mapPrgWrite ctlStrobe; split <;> first | rfl | simp

@[simp] theorem ppuRead_setX (b : Addr) (v : Byte) (s : State) : ppuRead b (setX v s) = ppuRead b s := rfl
@[simp] theorem ppuRegReadEffect_setX (r : PpuReg) (v : Byte) (s : State) :
    ppuRegReadEffect r (setX v s) = setX v (ppuRegReadEffect r s) := by
  cases r <;> rfl
@[simp] theorem busReadEffect_setX (b : Addr) (v : Byte) (s : State) :
    busReadEffect b (setX v s) = setX v (busReadEffect b s) := by
  unfold busReadEffect; split <;> first | rfl | simp
@[simp] theorem recordFault_setX (f : Fault) (v : Byte) (s : State) :
    recordFault f (setX v s) = setX v (recordFault f s) := by
  unfold recordFault; simp only [setX_fault]; split <;> rfl
@[simp] theorem raiseRomWrite_setX (u : Bus) (b : Addr) (d : Byte) (v : Byte) (s : State) :
    raiseRomWrite u b d (setX v s) = setX v (raiseRomWrite u b d s) := by
  unfold raiseRomWrite; simp only [setX_params, recordFault_setX]; split <;> rfl
@[simp] theorem ppuWrite_setX (b : Addr) (d : Byte) (v : Byte) (s : State) :
    ppuWrite b d (setX v s) = setX v (ppuWrite b d s) := by
  unfold ppuWrite mapChrWrite; split <;> first | rfl | simp
@[simp] theorem ppuRegWrite_setX (r : PpuReg) (d : Byte) (v : Byte) (s : State) :
    ppuRegWrite r d (setX v s) = setX v (ppuRegWrite r d s) := by
  cases r <;> first
    | rfl
    | (simp only [ppuRegWrite, writePpuData, setX_ppu, ppuWrite_setX]; rfl)
    | (by_cases hw : s.ppu.w = true <;> simp only [ppuRegWrite, writePpuScroll, writePpuAddr, setX_ppu, hw, if_true, if_false, Bool.false_eq_true] <;> rfl)
@[simp] theorem memWrite_setX (b : Addr) (d : Byte) (v : Byte) (s : State) :
    memWrite b d (setX v s) = setX v (memWrite b d s) := by
  unfold memWrite mapPrgWrite ctlStrobe; split <;> first | rfl | simp

@[simp] theorem ppuRead_setY (b : Addr) (v : Byte) (s : State) : ppuRead b (setY v s) = ppuRead b s := rfl
@[simp] theorem ppuRegReadEffect_setY (r : PpuReg) (v : Byte) (s : State) :
    ppuRegReadEffect r (setY v s) = setY v (ppuRegReadEffect r s) := by
  cases r <;> rfl
@[simp] theorem busReadEffect_setY (b : Addr) (v : Byte) (s : State) :
    busReadEffect b (setY v s) = setY v (busReadEffect b s) := by
  unfold busReadEffect; split <;> first | rfl | simp
@[simp] theorem recordFault_setY (f : Fault) (v : Byte) (s : State) :
    recordFault f (setY v s) = setY v (recordFault f s) := by
  unfold recordFault; simp only [setY_fault]; split <;> rfl
@[simp] theorem raiseRomWrite_setY (u : Bus) (b : Addr) (d : Byte) (v : Byte) (s : State) :
    raiseRomWrite u b d (setY v s) = setY v (raiseRomWrite u b d s) := by
  unfold raiseRomWrite; simp only [setY_params, recordFault_setY]; split <;> rfl
@[simp] theorem ppuWrite_setY (b : Addr) (d : Byte) (v : Byte) (s : State) :
    ppuWrite b d (setY v s) = setY v (ppuWrite b d s) := by
  unfold ppuWrite mapChrWrite; split <;> first | rfl | simp
@[simp] theorem ppuRegWrite_setY (r : PpuReg) (d : Byte) (v : Byte) (s : State) :
    ppuRegWrite r d (setY v s) = setY v (ppuRegWrite r d s) := by
  cases r <;> first
    | rfl
    | (simp only [ppuRegWrite, writePpuData, setY_ppu, ppuWrite_setY]; rfl)
    | (by_cases hw : s.ppu.w = true <;> simp only [ppuRegWrite, writePpuScroll, writePpuAddr, setY_ppu, hw, if_true, if_false, Bool.false_eq_true] <;> rfl)
@[simp] theorem memWrite_setY (b : Addr) (d : Byte) (v : Byte) (s : State) :
    memWrite b d (setY v s) = setY v (memWrite b d s) := by
  unfold memWrite mapPrgWrite ctlStrobe; split <;> first | rfl | simp

@[simp] theorem ppuRead_setSp (b : Addr) (v : Byte) (s : State) : ppuRead b (setSp v s) = ppuRead b s := rfl
@[simp] theorem ppuRegReadEffect_setSp (r : PpuReg) (v : Byte) (s : State) :
    ppuRegReadEffect r (setSp v s) = setSp v (ppuRegReadEffect r s) := by
  cases r <;> rfl
@[simp] theorem busReadEffect_setSp (b : Addr) (v : Byte) (s : State) :
    busReadEffect b (setSp v s) = setSp v (busReadEffect b s) := by
  unfold busReadEffect; split <;> first | rfl | simp
@[simp] theorem recordFault_setSp (f : Fault) (v : Byte) (s : State) :
    recordFault f (setSp v s) = setSp v (recordFault f s) := by
  unfold recordFault; simp only [setSp_fault]; split <;> rfl
@[simp] theorem raiseRomWrite_setSp (u : Bus) (b : Addr) (d : Byte) (v : Byte) (s : State) :
    raiseRomWrite u b d (setSp v s) = setSp v (raiseRomWrite u b d s) := by
  unfold raiseRomWrite; simp only [setSp_params, recordFault_setSp]; split <;> rfl
@[simp] theorem ppuWrite_setSp (b : Addr) (d : Byte) (v : Byte) (s : State) :
    ppuWrite b d (setSp v s) = setSp v (ppuWrite b d s) := by
  unfold ppuWrite mapChrWrite; split <;> first | rfl | simp
@[simp] theorem ppuRegWrite_setSp (r : PpuReg) (d : Byte) (v : Byte) (s : State) :
    ppuRegWrite r d (setSp v s) = setSp v (ppuRegWrite r d s) := by
  cases r <;> first
    | rfl
    | (simp only [ppuRegWrite, writePpuData, setSp_ppu, ppuWrite_setSp]; rfl)
    | (by_cases hw : s.ppu.w = true <;> simp only [ppuRegWrite, writePpuScroll, writePpuAddr, setSp_ppu, hw, if_true, if_false, Bool.false_eq_true] <;> rfl)
@[simp] theorem memWrite_setSp (b : Addr) (d : Byte) (v : Byte) (s : State) :
    memWrite b d (setSp v s) = setSp v (memWrite b d s) := by
  unfold memWrite mapPrgWrite ctlStrobe; split <;> first | rfl | simp

@[simp] theorem ppuRead_setP (b : Addr) (v : Byte) (s : State) : ppuRead b (setP v s) = ppuRead b s := rfl
@[simp] theorem ppuRegReadEffect_setP (r : PpuReg) (v : Byte) (s : State) :
    ppuRegReadEffect r (setP v s) = setP v (ppuRegReadEffect r s) := by
  cases r <;> rfl
@[simp] theorem busReadEffect_setP (b : Addr) (v : Byte) (s : State) :
    busReadEffect b (setP v s) = setP v (busReadEffect b s) := by
  unfold busReadEffect; split <;> first | rfl | simp
@[simp] theorem recordFault_setP (f : Fault) (v : Byte) (s : State) :
    recordFault f (setP v s) = setP v (recordFault f s) := by
  unfold recordFault; simp only [setP_fault]; split <;> rfl
@[simp] theorem raiseRomWrite_setP (u : Bus) (b : Addr) (d : Byte) (v : Byte) (s : State) :
    raiseRomWrite u b d (setP v s) = setP v (raiseRomWrite u b d s) := by
  unfold raiseRomWrite; simp only [setP_params, recordFault_setP]; split <;> rfl
@[simp] theorem ppuWrite_setP (b : Addr) (d : Byte) (v : Byte) (s : State) :
    ppuWrite b d (setP v s) = setP v (ppuWrite b d s) := by
  unfold ppuWrite mapChrWrite; split <;> first | rfl | simp
@[simp] theorem ppuRegWrite_setP (r : PpuReg) (d : Byte) (v : Byte) (s : State) :
    ppuRegWrite r d (setP v s) = setP v (ppuRegWrite r d s) := by
  cases r <;> first
    | rfl
    | (simp only [ppuRegWrite, writePpuData, setP_ppu, ppuWrite_setP]; rfl)
    | (by_cases hw : s.ppu.w = true <;> simp only [ppuRegWrite, writePpuScroll, writePpuAddr, setP_ppu, hw, if_true, if_false, Bool.false_eq_true] <;> rfl)
@[simp] theorem memWrite_setP (b : Addr) (d : Byte) (v : Byte) (s : State) :
    memWrite b d (setP v s) = setP v (memWrite b d s) := by
  unfold memWrite mapPrgWrite ctlStrobe; split <;> first | rfl | simp

@[simp] theorem ppuRead_setPc (b : Addr) (v : Addr) (s : State) : ppuRead b (setPc v s) = ppuRead b s := rfl
@[simp] theorem ppuRegReadEffect_setPc (r : PpuReg) (v : Addr) (s : State) :
    ppuRegReadEffect r (setPc v s) = setPc v (ppuRegReadEffect r s) := by
  cases r <;> rfl
@[simp] theorem busReadEffect_setPc (b : Addr) (v : Addr) (s : State) :
    busReadEffect b (setPc v s) = setPc v (busReadEffect b s) := by
  unfold busReadEffect; split <;> first | rfl | simp
@[simp] theorem recordFault_setPc (f : Fault) (v : Addr) (s : State) :
    recordFault f (setPc v s) = setPc v (recordFault f s) := by
  unfold recordFault; simp only [setPc_fault]; split <;> rfl
@[simp] theorem raiseRomWrite_setPc (u : Bus) (b : Addr) (d : Byte) (v : Addr) (s : State) :
    raiseRomWrite u b d (setPc v s) = setPc v (raiseRomWrite u b d s) := by
  unfold raiseRomWrite; simp only [setPc_params, recordFault_setPc]; split <;> rfl
@[simp] theorem ppuWrite_setPc (b : Addr) (d : Byte) (v : Addr) (s : State) :
    ppuWrite b d (setPc v s) = setPc v (ppuWrite b d s) := by
  unfold ppuWrite mapChrWrite; split <;> first | rfl | simp
@[simp] theorem ppuRegWrite_setPc (r : PpuReg) (d : Byte) (v : Addr) (s : State) :
    ppuRegWrite r d (setPc v s) = setPc v (ppuRegWrite r d s) := by
  cases r <;> first
    | rfl
    | (simp only [ppuRegWrite, writePpuData, setPc_ppu, ppuWrite_setPc]; rfl)
    | (by_cases hw : s.ppu.w = true <;> simp only [ppuRegWrite, writePpuScroll, writePpuAddr, setPc_ppu, hw, if_true, if_false, Bool.false_eq_true] <;> rfl)
@[simp] theorem memWrite_setPc (b : Addr) (d : Byte) (v : Addr) (s : State) :
    memWrite b d (setPc v s) = setPc v (memWrite b d s) := by
  unfold memWrite mapPrgWrite ctlStrobe; split <;> first | rfl | simp

@[simp] theorem ppuRead_setEa (b : Addr) (v : Addr) (s : State) : ppuRead b (setEa v s) = ppuRead b s := rfl
@[simp] theorem ppuRegReadEffect_setEa (r : PpuReg) (v : Addr) (s : State) :
    ppuRegReadEffect r (setEa v s) = setEa v (ppuRegReadEffect r s) := by
  cases r <;> rfl
@[simp] theorem busReadEffect_setEa (b : Addr) (v : Addr) (s : State) :
    busReadEffect b (setEa v s) = setEa v (busReadEffect b s) := by
  unfold busReadEffect; split <;> first | rfl | simp
@[simp] theorem recordFault_setEa (f : Fault) (v : Addr) (s : State) :
    recordFault f (setEa v s) = setEa v (recordFault f s) := by
  unfold recordFault; simp only [setEa_fault]; split <;> rfl
@[simp] theorem raiseRomWrite_setEa (u : Bus) (b : Addr) (d : Byte) (v : Addr) (s : State) :
    raiseRomWrite u b d (setEa v s) = setEa v (raiseRomWrite u b d s) := by
  unfold raiseRomWrite; simp only [setEa_params, recordFault_setEa]; split <;> rfl
@[simp] theorem ppuWrite_setEa (b : Addr) (d : Byte) (v : Addr) (s : State) :
    ppuWrite b d (setEa v s) = setEa v (ppuWrite b d s) := by
  unfold ppuWrite mapChrWrite; split <;> first | rfl | simp
@[simp] theorem ppuRegWrite_setEa (r : PpuReg) (d : Byte) (v : Addr) (s : State) :
    ppuRegWrite r d (setEa v s) = setEa v (ppuRegWrite r d s) := by
  cases r <;> first
    | rfl
    | (simp only [ppuRegWrite, writePpuData, setEa_ppu, ppuWrite_setEa]; rfl)
    | (by_cases hw : s.ppu.w = true <;> simp only [ppuRegWrite, writePpuScroll, writePpuAddr, setEa_ppu, hw, if_true, if_false, Bool.false_eq_true] <;> rfl)
@[simp] theorem memWrite_setEa (b : Addr) (d : Byte) (v : Addr) (s : State) :
    memWrite b d (setEa v s) = setEa v (memWrite b d s) := by
  unfold memWrite mapPrgWrite ctlStrobe; split <;> first | rfl | simp

@[simp] theorem ppuRead_setFetched (b : Addr) (v : Byte) (s : State) : ppuRead b (setFetched v s) = ppuRead b s := rfl
@[simp] theorem ppuRegReadEffect_setFetched (r : PpuReg) (v : Byte) (s : State) :
    ppuRegReadEffect r (setFetched v s) = setFetched v (ppuRegReadEffect r s) := by
  cases r <;> rfl
@[simp] theorem busReadEffect_setFetched (b : Addr) (v : Byte) (s : State) :
    busReadEffect b (setFetched v s) = setFetched v (busReadEffect b s) := by
  unfold busReadEffect; split <;> first | rfl | simp
@[simp] theorem recordFault_setFetched (f : Fault) (v : Byte) (s : State) :
    recordFault f (setFetched v s) = setFetched v (recordFault f s) := by
  unfold recordFault; simp only [setFetched_fault]; split <;> rfl
@[simp] theorem raiseRomWrite_setFetched (u : Bus) (b : Addr) (d : Byte) (v : Byte) (s : State) :
    raiseRomWrite u b d (setFetched v s) = setFetched v (raiseRomWrite u b d s) := by
  unfold raiseRomWrite; simp only [setFetched_params, recordFault_setFetched]; split <;> rfl
@[simp] theorem ppuWrite_setFetched (b : Addr) (d : Byte) (v : Byte) (s : State) :
    ppuWrite b d (setFetched v s) = setFetched v (ppuWrite b d s) := by
  unfold ppuWrite mapChrWrite; split <;> first | rfl | simp
@[simp] theorem ppuRegWrite_setFetched (r : PpuReg) (d : Byte) (v : Byte) (s : State) :
    ppuRegWrite r d (setFetched v s) = setFetched v (ppuRegWrite r d s) := by
  cases r <;> first
    | rfl
    | (simp only [ppuRegWrite, writePpuData, setFetched_ppu, ppuWrite_setFetched]; rfl)
    | (by_cases hw : s.ppu.w = true <;> simp only [ppuRegWrite, writePpuScroll, writePpuAddr, setFetched_ppu, hw, if_true, if_false, Bool.false_eq_true] <;> rfl)
@[simp] theorem memWrite_setFetched (b : Addr) (d : Byte) (v : Byte) (s : State) :
    memWrite b d (setFetched v s) = setFetched v (memWrite b d s) := by
  unfold memWrite mapPrgWrite ctlStrobe; split <;> first | rfl | simp

@[simp] theorem ppuRead_setOpcode (b : Addr) (v : Byte) (s : State) : ppuRead b (setOpcode v s) = ppuRead b s := rfl
@[simp] theorem ppuRegReadEffect_setOpcode (r : PpuReg) (v : Byte) (s : State) :
    ppuRegReadEffect r (setOpcode v s) = setOpcode v (ppuRegReadEffect r s) := by
  cases r <;> rfl
@[simp] theorem busReadEffect_setOpcode (b : Addr) (v : Byte) (s : State) :
    busReadEffect b (setOpcode v s) = setOpcode v (busReadEffect b s) := by
  unfold busReadEffect; split <;> first | rfl | simp
@[simp] theorem recordFault_setOpcode (f : Fault) (v : Byte) (s : State) :
    recordFault f (setOpcode v s) = setOpcode v (recordFault f s) := by
  unfold recordFault; simp only [setOpcode_fault]; split <;> rfl
@[simp] theorem raiseRomWrite_setOpcode (u : Bus) (b : Addr) (d : Byte) (v : Byte) (s : State) :
    raiseRomWrite u b d (setOpcode v s) = setOpcode v (raiseRomWrite u b d s) := by
  unfold raiseRomWrite; simp only [setOpcode_params, recordFault_setOpcode]; split <;> rfl
@[simp] theorem ppuWrite_setOpcode (b : Addr) (d : Byte) (v : Byte) (s : State) :
    ppuWrite b d (setOpcode v s) = setOpcode v (ppuWrite b d s) := by
  unfold ppuWrite mapChrWrite; split <;> first | rfl | simp
@[simp] theorem ppuRegWrite_setOpcode (r : PpuReg) (d : Byte) (v : Byte) (s : State) :
    ppuRegWrite r d (setOpcode v s) = setOpcode v (ppuRegWrite r d s) := by
  cases r <;> first
    | rfl
    | (simp only [ppuRegWrite, writePpuData, setOpcode_ppu, ppuWrite_setOpcode]; rfl)
    | (by_cases hw : s.ppu.w = true <;> simp only [ppuRegWrite, writePpuScroll, writePpuAddr, setOpcode_ppu, hw, if_true, if_false, Bool.false_eq_true] <;> rfl)
@[simp] theorem memWrite_setOpcode (b : Addr) (d : Byte) (v : Byte) (s : State) :
    memWrite b d (setOpcode v s) = setOpcode v (memWrite b d s) := by
  unfold memWrite mapPrgWrite ctlStrobe; split <;> first | rfl | simp

@[simp] theorem ppuRead_setRemaining (b : Addr) (v : Nat) (s : State) : ppuRead b (setRemaining v s) = ppuRead b s := rfl
@[simp] theorem ppuRegReadEffect_setRemaining (r : PpuReg) (v : Nat) (s : State) :
    ppuRegReadEffect r (setRemaining v s) = setRemaining v (ppuRegReadEffect r s) := by
  cases r <;> rfl
@[simp] theorem busReadEffect_setRemaining (b : Addr) (v : Nat) (s : State) :
    busReadEffect b (setRemaining v s) = setRemaining v (busReadEffect b s) := by
  unfold busReadEffect; split <;> first | rfl | simp
@[simp] theorem recordFault_setRemaining (f : Fault) (v : Nat) (s : State) :
    recordFault f (setRemaining v s) = setRemaining v (recordFault f s) := by
  unfold recordFault; simp only [setRemaining_fault]; split <;> rfl
@[simp] theorem raiseRomWrite_setRemaining (u : Bus) (b : Addr) (d : Byte) (v : Nat) (s : State) :
    raiseRomWrite u b d (setRemaining v s) = setRemaining v (raiseRomWrite u b d s) := by
  unfold raiseRomWrite; simp only [setRemaining_params, recordFault_setRemaining]; split <;> rfl
@[simp] theorem ppuWrite_setRemaining (b : Addr) (d : Byte) (v : Nat) (s : State) :
    ppuWrite b d (setRemaining v s) = setRemaining v (ppuWrite b d s) := by
  unfold ppuWrite mapChrWrite; split <;> first | rfl | simp
@[simp] theorem ppuRegWrite_setRemaining (r : PpuReg) (d : Byte) (v : Nat) (s : State) :
    ppuRegWrite r d (setRemaining v s) = setRemaining v (ppuRegWrite r d s) := by
  cases r <;> first
    | rfl
    | (simp only [ppuRegWrite, writePpuData, setRemaining_ppu, ppuWrite_setRemaining]; rfl)
    | (by_cases hw : s.ppu.w = true <;> simp only [ppuRegWrite, writePpuScroll, writePpuAddr, setRemaining_ppu, hw, if_true, if_false, Bool.false_eq_true] <;> rfl)
@[simp] theorem memWrite_setRemaining (b : Addr) (d : Byte) (v : Nat) (s : State) :
    memWrite b d (setRemaining v s) = setRemaining v (memWrite b d s) := by
  unfold memWrite mapPrgWrite ctlStrobe; split <;> first | rfl | simp

@[simp] theorem busReadEffect_setFlag (b : Addr) (f : Flag) (v : Bool) (s : State) :
    busReadEffect b (setFlag f v s) = setFlag f v (busReadEffect b s) := by
  unfold setFlag; exact (busReadEffect_setP b (putFlag f v s.p) s).trans (by simp [setP])
@[simp] theorem memWrite_setFlag (b : Addr) (d : Byte) (f : Flag) (v : Bool) (s : State) :
    memWrite b d (setFlag f v s) = setFlag f v (memWrite b d s) := by
  unfold setFlag; exact (memWrite_setP b d (putFlag f v s.p) s).trans (by simp [setP])

end Sys2Proof.Machine
end

