-- ==== Sys2Proof/Laws/Engine.lean ====
section
/-! SUPPORT. What each shared operation of the engine can do, said once: exceptions, the shapes of instruction, the
PPU's tick, the interrupt check, the fetch, the master tick. -/

namespace Sys2Proof.Machine

/-! ### Exceptions -/

/-- A vector read from two PRG ROM bytes has no side effect. -/
theorem memRead16_of_prgRom {v : Addr} (s : State) (h0 : regionOf v = .prgRom) (h1 : regionOf (v + 1#16) = .prgRom) :
    memRead16 v s = (addrOf (prgRead (v + 1#16) s) (prgRead v s), s) := by
  simp [memRead16, memRead, busReadEffect_of_prgRom _ h0, busReadEffect_of_prgRom _ h1, busValue, h0, h1]

/-- Taking an exception through a vector in PRG ROM: three bytes pushed in the stack page, I set, PC loaded, nothing
else. -/
theorem takeException_eq (ret : Addr) (st : Byte) {v : Addr} (s : State) (h0 : regionOf v = .prgRom)
    (h1 : regionOf (v + 1#16) = .prgRom) :
    takeException ret st v s =
      { s with
        ram := ((s.ram.write (256 + s.sp.toNat) (hiByte ret)).write (256 + (s.sp - 1#8).toNat) (loByte ret)).write
          (256 + (s.sp - 1#8 - 1#8).toNat) st
        sp := s.sp - 1#8 - 1#8 - 1#8
        p := putFlag .i true s.p
        pc := addrOf (prgRead (v + 1#16) s) (prgRead v s) } := by
  simp [takeException, push_eq, memRead16_of_prgRom _ h0 h1, setFlag, setPc, prgRead]

/-- Returning from one: three bytes pulled, nothing else. -/
theorem returnFromException_eq (s : State) :
    returnFromException s =
      { s with
        p := pulledStatus (s.ram.read (256 + (s.sp + 1#8).toNat))
        sp := s.sp + 1#8 + 1#8 + 1#8
        pc := addrOf (s.ram.read (256 + (s.sp + 1#8 + 1#8 + 1#8).toNat)) (s.ram.read (256 + (s.sp + 1#8 + 1#8).toNat)) } := by
  simp [returnFromException, pull_eq, setP, setPc]

/-- The interrupt vectors are in PRG ROM. -/
theorem regionOf_vectors :
    regionOf nmiVector = .prgRom ∧ regionOf (nmiVector + 1#16) = .prgRom ∧
    regionOf irqVector = .prgRom ∧ regionOf (irqVector + 1#16) = .prgRom ∧
    regionOf resetVector = .prgRom ∧ regionOf (resetVector + 1#16) = .prgRom := by decide

/-! ### Shapes of instruction -/

theorem finish_eq (base extra : Nat) (s : State) :
    finish base extra s = .next { s with remaining := base + extra, instructions := s.instructions + 1#64 } := rfl

/-- A reading instruction answers its operation applied to the byte read. -/
theorem readInstr_eq (base : Nat) (wants : Bool) (m : ModeResult) (op : Byte → State → State) (s : State) :
    readInstr base wants m op s =
      finish base (extraCycle m.crossed wants)
        (op (busValue m.ea s) (setFetched (busValue m.ea s) (setEa m.ea (busReadEffect m.ea s)))) := by
  simp [readInstr, fetchOperand, memRead]

/-- A store answers the state after its one write. -/
theorem storeInstr_eq (base : Nat) (m : ModeResult) (v : Byte) (s : State) :
    storeInstr base m v s = finish base 0 (setEa m.ea (memWrite m.ea v s)) := by
  simp [storeInstr, extraCycle]

/-- A read-modify-write answers one read, one write, and what follows. -/
theorem rmwInstr_eq (base : Nat) (m : ModeResult) (f : Byte → State → Byte × State) (after : Byte → State → State)
    (s : State) :
    rmwInstr base m f after s =
      finish base 0
        (let w := f (busValue m.ea s) (setFetched (busValue m.ea s) (setEa m.ea (busReadEffect m.ea s)))
         after w.1 (memWrite m.ea w.1 w.2)) := by
  simp [rmwInstr, fetchOperand, memRead, extraCycle]

/-! ### The PPU's tick -/

theorem vblankEntry_eq (s : State) :
    vblankEntry s = { s with
      ppu := { s.ppu with status := s.ppu.status ||| 0x80#8 }
      nmiPending := s.nmiPending || s.ppu.nmiEnable } := by
  unfold vblankEntry
  have h : ∀ b : Bool, (if b = true then
      { s with ppu := { s.ppu with status := s.ppu.status ||| 0x80#8 }, nmiPending := true }
      else { s with ppu := { s.ppu with status := s.ppu.status ||| 0x80#8 } }) =
      { s with ppu := { s.ppu with status := s.ppu.status ||| 0x80#8 }, nmiPending := s.nmiPending || b } := by
    intro b; cases b <;> simp
  exact h s.ppu.nmiEnable

/-- What the event of a scanline writes: PPUSTATUS, the frame-complete latch and counter, the NMI request. -/
theorem scanlineEvent_eq (s : State) :
    scanlineEvent s = { s with
      ppu := { s.ppu with
        status := if s.ppu.scanline = 241 then s.ppu.status ||| 0x80#8
                  else if s.ppu.scanline = -1 then s.ppu.status &&& 0x1F#8 else s.ppu.status
        frameComplete := if s.ppu.scanline = -1 then true else s.ppu.frameComplete
        frameCount := if s.ppu.scanline = -1 then s.ppu.frameCount + 1#64 else s.ppu.frameCount }
      nmiPending := if s.ppu.scanline = 241 then s.nmiPending || s.ppu.nmiEnable else s.nmiPending } := by
  unfold scanlineEvent
  split
  · rename_i h
    rw [vblankEntry_eq, if_neg (by omega), if_neg (by omega)]
  · rename_i h
    split
    · rename_i h2; simp [prerenderEntry, h2]
    · rfl

/-- A tick changes the PPU and the NMI request only. -/
theorem ppuTick_eq (s : State) :
    ppuTick s = { s with ppu := (ppuTick s).ppu, nmiPending := (ppuTick s).nmiPending } := by
  unfold ppuTick
  split
  · rw [scanlineEvent_eq]
  · rfl

@[simp] theorem ppuTick_a (s : State) : (ppuTick s).a = s.a := by rw [ppuTick_eq]
@[simp] theorem ppuTick_x (s : State) : (ppuTick s).x = s.x := by rw [ppuTick_eq]
@[simp] theorem ppuTick_y (s : State) : (ppuTick s).y = s.y := by rw [ppuTick_eq]
@[simp] theorem ppuTick_sp (s : State) : (ppuTick s).sp = s.sp := by rw [ppuTick_eq]
@[simp] theorem ppuTick_p (s : State) : (ppuTick s).p = s.p := by rw [ppuTick_eq]
@[simp] theorem ppuTick_pc (s : State) : (ppuTick s).pc = s.pc := by rw [ppuTick_eq]
@[simp] theorem ppuTick_remaining (s : State) : (ppuTick s).remaining = s.remaining := by rw [ppuTick_eq]
@[simp] theorem ppuTick_opcode (s : State) : (ppuTick s).opcode = s.opcode := by rw [ppuTick_eq]
@[simp] theorem ppuTick_fetched (s : State) : (ppuTick s).fetched = s.fetched := by rw [ppuTick_eq]
@[simp] theorem ppuTick_ea (s : State) : (ppuTick s).ea = s.ea := by rw [ppuTick_eq]
@[simp] theorem ppuTick_cycles (s : State) : (ppuTick s).cycles = s.cycles := by rw [ppuTick_eq]
@[simp] theorem ppuTick_instructions (s : State) : (ppuTick s).instructions = s.instructions := by rw [ppuTick_eq]
@[simp] theorem ppuTick_ctl0 (s : State) : (ppuTick s).ctl0 = s.ctl0 := by rw [ppuTick_eq]
@[simp] theorem ppuTick_ctl1 (s : State) : (ppuTick s).ctl1 = s.ctl1 := by rw [ppuTick_eq]
@[simp] theorem ppuTick_ram (s : State) : (ppuTick s).ram = s.ram := by rw [ppuTick_eq]
@[simp] theorem ppuTick_vram (s : State) : (ppuTick s).vram = s.vram := by rw [ppuTick_eq]
@[simp] theorem ppuTick_pal (s : State) : (ppuTick s).pal = s.pal := by rw [ppuTick_eq]
@[simp] theorem ppuTick_cart (s : State) : (ppuTick s).cart = s.cart := by rw [ppuTick_eq]
@[simp] theorem ppuTick_master (s : State) : (ppuTick s).master = s.master := by rw [ppuTick_eq]
@[simp] theorem ppuTick_halted (s : State) : (ppuTick s).halted = s.halted := by rw [ppuTick_eq]
@[simp] theorem ppuTick_fault (s : State) : (ppuTick s).fault = s.fault := by rw [ppuTick_eq]
@[simp] theorem ppuTick_romWriteSeen (s : State) : (ppuTick s).romWriteSeen = s.romWriteSeen := by rw [ppuTick_eq]
@[simp] theorem ppuTick_irqLine (s : State) : (ppuTick s).irqLine = s.irqLine := by rw [ppuTick_eq]
@[simp] theorem ppuTick_params (s : State) : (ppuTick s).params = s.params := by rw [ppuTick_eq]
@[simp] theorem advance_ctrl (u : Ppu) : u.advance.ctrl = u.ctrl := by unfold Ppu.advance; split <;> rfl
@[simp] theorem ppuTick_ppu_ctrl (s : State) : (ppuTick s).ppu.ctrl = s.ppu.ctrl := by
  unfold ppuTick; rw [scanlineEvent_eq]; split <;> simp
@[simp] theorem advance_mask (u : Ppu) : u.advance.mask = u.mask := by unfold Ppu.advance; split <;> rfl
@[simp] theorem ppuTick_ppu_mask (s : State) : (ppuTick s).ppu.mask = s.ppu.mask := by
  unfold ppuTick; rw [scanlineEvent_eq]; split <;> simp
@[simp] theorem advance_v (u : Ppu) : u.advance.v = u.v := by unfold Ppu.advance; split <;> rfl
@[simp] theorem ppuTick_ppu_v (s : State) : (ppuTick s).ppu.v = s.ppu.v := by
  unfold ppuTick; rw [scanlineEvent_eq]; split <;> simp
@[simp] theorem advance_t (u : Ppu) : u.advance.t = u.t := by unfold Ppu.advance; split <;> rfl
@[simp] theorem ppuTick_ppu_t (s : State) : (ppuTick s).ppu.t = s.ppu.t := by
  unfold ppuTick; rw [scanlineEvent_eq]; split <;> simp
@[simp] theorem advance_x (u : Ppu) : u.advance.x = u.x := by unfold Ppu.advance; split <;> rfl
@[simp] theorem ppuTick_ppu_x (s : State) : (ppuTick s).ppu.x = s.ppu.x := by
  unfold ppuTick; rw [scanlineEvent_eq]; split <;> simp
@[simp] theorem advance_w (u : Ppu) : u.advance.w = u.w := by unfold Ppu.advance; split <;> rfl
@[simp] theorem ppuTick_ppu_w (s : State) : (ppuTick s).ppu.w = s.ppu.w := by
  unfold ppuTick; rw [scanlineEvent_eq]; split <;> simp
@[simp] theorem advance_buffer (u : Ppu) : u.advance.buffer = u.buffer := by unfold Ppu.advance; split <;> rfl
@[simp] theorem ppuTick_ppu_buffer (s : State) : (ppuTick s).ppu.buffer = s.ppu.buffer := by
  unfold ppuTick; rw [scanlineEvent_eq]; split <;> simp

/-- The position after a tick (R281). -/
theorem ppuTick_position (s : State) :
    (ppuTick s).ppu.dot = s.ppu.advance.dot ∧ (ppuTick s).ppu.scanline = s.ppu.advance.scanline := by
  unfold ppuTick; rw [scanlineEvent_eq]; split <;> exact ⟨rfl, rfl⟩

/-- A tick keeps a valid position valid (R283). -/
theorem ppuTick_validPosition (s : State) (h : validPosition s.ppu.scanline s.ppu.dot = true) :
    validPosition (ppuTick s).ppu.scanline (ppuTick s).ppu.dot = true := by
  obtain ⟨hd, hl⟩ := ppuTick_position s
  rw [hd, hl]
  simp only [validPosition, Bool.and_eq_true, decide_eq_true_eq] at h ⊢
  unfold Ppu.advance nextScanline
  split
  · dsimp only; split <;> omega
  · dsimp only; omega

/-! ### The interrupt check and the master tick -/

/-- Off a boundary the interrupt check does nothing (R302). -/
theorem interruptCheck_of_owing {s : State} (h : s.remaining ≠ 0) : interruptCheck s = s := by
  simp [interruptCheck, h]

/-- At a boundary a pending NMI is delivered, whatever I holds (R263, R302). -/
theorem interruptCheck_nmi {s : State} (h : s.remaining = 0) (hn : s.nmiPending = true) :
    interruptCheck s = interruptEntry nmiVector 8 { s with nmiPending := false } := by
  simp [interruptCheck, h, hn]

/-- At a boundary without a pending NMI an asserted line is taken if I is clear (R262, R302). -/
theorem interruptCheck_irq {s : State} (h : s.remaining = 0) (hn : s.nmiPending = false) (hl : s.irqLine = true)
    (hi : s.flag .i = false) : interruptCheck s = interruptEntry irqVector 7 s := by
  simp [interruptCheck, h, hn, hl, hi]

/-- At a boundary with neither the check does nothing. -/
theorem interruptCheck_none {s : State} (hn : s.nmiPending = false) (hl : s.irqLine = false ∨ s.flag .i = true) :
    interruptCheck s = s := by
  unfold interruptCheck
  rcases hl with hl | hl <;> simp [hn, hl]

/-- A halted system is frozen (R300). -/
theorem step_of_halted {s : State} (h : s.halted = true) : step s = .next s := by simp [step, masterTick, h]

/-- A tick that is no CPU tick advances the PPU only, then checks for interrupts. -/
theorem step_off_cpu {s : State} (hh : s.halted = false) (hm : s.master.toNat % 3 ≠ 0) :
    step s = .next (endTick (ppuTick s)) := by
  simp [step, masterTick, hh, isCpuTick, hm]

/-- A CPU tick that owes cycles drains one. -/
theorem step_draining {s : State} (hh : s.halted = false) (hm : s.master.toNat % 3 = 0) (hr : s.remaining ≠ 0) :
    step s = .next (endTick (countClock (ppuTick s))) := by
  simp [step, masterTick, hh, isCpuTick, hm, cpuClock, hr]

/-- A CPU tick at a boundary fetches and executes one instruction. -/
theorem step_executing {s t : State} (hh : s.halted = false) (hm : s.master.toNat % 3 = 0) (hr : s.remaining = 0)
    (he : exec (fetchInstr (ppuTick s)).1 (fetchInstr (ppuTick s)).2 = .next t) :
    step s = .next (endTick (countClockUnlessHalted t)) := by
  simp [step, masterTick, hh, isCpuTick, hm, cpuClock, hr, executeOne, he]

end Sys2Proof.Machine
end

