-- ==== Sys2Proof/Laws/Frames.lean ====
section
/-! SUPPORT. The frames said once: what a bus read and a bus write leave of every plain byte, and what each shape of
instruction answers for an operation that computes registers and flags only. -/

namespace Sys2Proof.Machine

/-! ### Bytes read -/

/-- The byte a plain address reads comes from RAM and the cartridge alone. -/
theorem busValue_plain_congr {s t : State} (hr : t.ram = s.ram) (hc : t.cart = s.cart) {b : Addr}
    (h : plainAddr b = true) : busValue b t = busValue b s := by
  unfold busValue plainAddr at *
  split <;> simp_all [prgRead]

theorem readsSame_of_eq {s t : State} (hr : t.ram = s.ram) (hc : t.cart = s.cart) : ReadsSame s t :=
  fun _ h => busValue_plain_congr hr hc h

/-- A write to RAM is the only one that changes RAM. -/
theorem memWrite_ram (a : Addr) (v : Byte) (s : State) :
    (memWrite a v s).ram = if regionOf a = .ram then s.ram.write (ramIndex a) v else s.ram := by
  unfold memWrite
  split <;> simp_all [ctlStrobe, mapPrgWrite]
  rename_i r _
  generalize ppuRegOf a = q
  cases q <;> simp [ppuRegWrite, writePpuCtrl, writePpuMask, writePpuScroll, writePpuAddr, writePpuData] <;>
    split <;> rfl

/-- A bus write stores its byte and nothing else. -/
theorem byteStored_memWrite (a : Addr) (v : Byte) {s t : State} (hw : s.ram.wf ramSize = true)
    (hr : t.ram = if regionOf a = .ram then s.ram.write (ramIndex a) v else s.ram) (hc : t.cart = s.cart) :
    ByteStored a v s t := by
  intro b hb
  by_cases ha : regionOf a = .ram
  · rw [if_pos ha] at hr
    by_cases hbr : regionOf b = .ram
    · simp only [busValue, hbr, hr, Memory.read_write hw, ha, true_and, eq_comm]
    · rw [if_neg (by simp [hbr])]
      unfold busValue plainAddr at *
      split <;> simp_all [prgRead]
  · rw [if_neg ha] at hr
    rw [if_neg (by simp [ha])]
    exact busValue_plain_congr hr hc hb

/-- Nothing pushed: every plain byte reads as before. -/
theorem stackStored_nil {s t : State} (hr : t.ram = s.ram) (hc : t.cart = s.cart) : StackStored [] s t :=
  fun _ hb => busValue_plain_congr hr hc hb

/-- One byte pushed. -/
theorem stackStored_cons {rest : List (Byte × Byte)} {s u t : State} {k v : Byte} (hu : u.ram.wf ramSize = true)
    (h : StackStored rest s u) (hr : t.ram = u.ram.write (256 + k.toNat) v) (hc : t.cart = u.cart) :
    StackStored ((k, v) :: rest) s t := by
  intro b hb
  by_cases hbr : regionOf b = .ram
  · by_cases hi : ramIndex b = 256 + k.toNat
    · simp [List.find?, hbr, hi, busValue, hr, Memory.read_write hu]
    · have := h b hb
      simp only [List.find?, hbr, beq_self_eq_true, Bool.true_and]
      simp only [hbr, beq_self_eq_true, Bool.true_and] at this
      rw [beq_eq_false_iff_ne.2 hi]
      rw [← this]
      simp [busValue, hbr, hr, Memory.read_write_other hu _ (Ne.symm hi)]
  · have h1 : regionOf b ≠ .ram := hbr
    have := h b hb
    have e : ∀ q : Byte × Byte, (regionOf b == Region.ram && ramIndex b == 256 + q.1.toNat) = false := by simp [h1]
    simp only [e, List.find?_eq_none.2 (by simp : ∀ x ∈ rest, ¬ (false = true))] at this
    simp only [e]
    rw [List.find?_eq_none.2 (by simp)]
    dsimp only at this ⊢
    rw [← this]
    unfold busValue plainAddr at *
    split <;> simp_all [prgRead]

/-- The stack byte in RAM. -/
theorem stackByte_eq (k : Byte) (s : State) : stackByte k s = s.ram.read (256 + k.toNat) := by
  have hk := k.isLt
  have e : BitVec.ofNat 16 (256 + k.toNat) = stackAddr k := by
    apply BitVec.eq_of_toNat_eq
    rw [stackAddr_toNat, BitVec.toNat_ofNat]; omega
  simp [stackByte, busValue, e]

/-! ### Flags -/

theorem flagsKept_iff {w : List Flag} {s t : State} :
    FlagsKept w s t ↔ (∀ f, f ∉ w → getFlag f t.p = getFlag f s.p) := Iff.rfl

/-- An operation that computes registers and flags and touches nothing else. -/
def Computes (op : Byte → State → State) : Prop :=
  ∀ v u, op v u = { u with a := (op v u).a, x := (op v u).x, y := (op v u).y, p := (op v u).p }

/-! ### Shapes -/

/-- A reading form completes, whatever its operation computes. -/
theorem Form.reads_of_readInstr {i : Instr} {code : Byte} {m : ModeResult} {base : Nat} {wants : Bool}
    {op : Byte → State → State} {s : State} {P : State → Prop} {n : Nat}
    (he : exec i s = readInstr base wants m op s) (hc : (encode i).head? = some code) (hop : Computes op)
    (hn : base + extraCycle m.crossed wants = n)
    (hP : ∀ t u, t.a = (op (busValue m.ea s) u).a → t.x = (op (busValue m.ea s) u).x → t.y = (op (busValue m.ea s) u).y →
      t.p = (op (busValue m.ea s) u).p → u.a = s.a → u.x = s.x → u.y = s.y → u.p = s.p → P t) :
    (Form.mk i code m.ea (busValue m.ea s) (busReadEffect m.ea s) n).Reads s P := by
  refine ⟨hc, ?_⟩
  rw [he, readInstr_eq, finish_eq, hop, hn]
  refine ⟨_, rfl, hP _ (setFetched (busValue m.ea s) (setEa m.ea (busReadEffect m.ea s))) rfl rfl rfl rfl ?_ ?_ ?_ ?_, ?_⟩
  all_goals simp [Owes, SameMemories, SameDevices, SameFaults, SameSystem, readsSame_of_eq]

/-- An immediate form completes. -/
theorem Form.reads_of_readImm {i : Instr} {code n : Byte} {op : Byte → State → State} {s : State} {P : State → Prop}
    (he : exec i s = readImm 2 n op s) (hc : (encode i).head? = some code) (hop : Computes op)
    (hP : ∀ t u, t.a = (op n u).a → t.x = (op n u).x → t.y = (op n u).y →
      t.p = (op n u).p → u.a = s.a → u.x = s.x → u.y = s.y → u.p = s.p → P t) :
    (immForm i code n s).Reads s P := by
  refine ⟨hc, ?_⟩
  simp only [immForm]
  rw [he, readImm, finish_eq, hop]
  refine ⟨_, rfl, hP _ (setFetched n (setEa (modeImm s).ea s)) rfl rfl rfl rfl rfl rfl rfl rfl, ?_⟩
  simp [Owes, SameMemories, SameDevices, SameFaults, SameSystem, readsSame_of_eq, modeImm]

/-- A store form completes. -/
theorem StoreForm.stores_of_storeInstr {i : Instr} {code v : Byte} {m : ModeResult} {base : Nat} {s : State}
    (he : exec i s = storeInstr base m v s) (hc : (encode i).head? = some code) :
    (storeForm i code m base).Stores v s := by
  refine ⟨hc, ?_⟩
  simp only [storeForm]
  rw [he, storeInstr_eq, finish_eq]
  refine ⟨_, rfl, ?_⟩
  have hb : ∀ t : State, s.ram.wf ramSize = true → t.ram = (memWrite m.ea v s).ram → t.cart = s.cart →
      ByteStored m.ea v s t := fun t h hr hc => byteStored_memWrite _ _ h (hr.trans (memWrite_ram _ _ _)) hc
  simp [Owes, SameOutside, SameMemories, SameDevices, SameFaults, SameSystem, SameRegisters]
  exact fun h => hb _ h rfl (by simp)

/-- A read-modify-write form completes: `f` computes the byte and flags, `after` registers and flags. -/
theorem Form.rewrites_of_rmwInstr {i : Instr} {code r : Byte} {m : ModeResult} {base : Nat}
    {f : Byte → State → Byte × State} {after : Byte → State → State} {s : State} {P : State → Prop}
    (he : exec i s = rmwInstr base m f after s) (hc : (encode i).head? = some code)
    (hf : ∀ v u, (f v u).2 = setP (f v u).2.p u) (hop : Computes after)
    (hr : ∀ u, u.p = s.p → (f (busValue m.ea s) u).1 = r)
    (hP : ∀ t u w, t.a = (after r u).a → t.x = (after r u).x → t.y = (after r u).y → t.p = (after r u).p →
      u.a = s.a → u.x = s.x → u.y = s.y → u.p = (f (busValue m.ea s) w).2.p → w.p = s.p → P t) :
    (Form.mk i code m.ea (busValue m.ea s) (busReadEffect m.ea s) base).Rewrites r s P := by
  refine ⟨hc, ?_⟩
  rw [he, rmwInstr_eq, finish_eq]
  dsimp only
  rw [hr _ (by simp), hf, hop]
  refine ⟨_, rfl, hP _ (memWrite m.ea r (setP (f (busValue m.ea s) (setFetched (busValue m.ea s)
      (setEa m.ea (busReadEffect m.ea s)))).2.p (setFetched (busValue m.ea s) (setEa m.ea (busReadEffect m.ea s)))))
      (setFetched (busValue m.ea s) (setEa m.ea (busReadEffect m.ea s))) rfl rfl rfl rfl ?_ ?_ ?_ ?_ ?_, ?_⟩
  all_goals simp [Owes, SameOutside, SameMemories, SameDevices, SameFaults, SameSystem]
  intro h
  exact byteStored_memWrite _ _ h (by simp [memWrite_ram]) (by simp)

end Sys2Proof.Machine
end

