-- ==== Sys2Proof/Laws/PerInstr.lean ====
section
/-! SUPPORT. Facts about every instruction as syntax, one lemma a constructor. Family `Length`: the encoding of an
instruction is as long as its opcode byte says, so a decoder that reads the length from the first byte reads the whole
instruction (spec/30_encoding.md R110, R111). -/

namespace Sys2Proof.Laws.Length

/-- The encoding is as long as its first byte says. -/
def Statement (i : Instr) : Prop := (encode i).length = instrLength (opcodeOf i)

theorem brk : Statement (.brk) := rfl
theorem oraIzx (z : Byte) : Statement (.oraIzx z) := rfl
theorem xxx02 : Statement (.xxx02) := rfl
theorem sloIzx (z : Byte) : Statement (.sloIzx z) := rfl
theorem nopZp004 (z : Byte) : Statement (.nopZp004 z) := rfl
theorem oraZp0 (z : Byte) : Statement (.oraZp0 z) := rfl
theorem aslZp0 (z : Byte) : Statement (.aslZp0 z) := rfl
theorem sloZp0 (z : Byte) : Statement (.sloZp0 z) := rfl
theorem php : Statement (.php) := rfl
theorem oraImm (n : Byte) : Statement (.oraImm n) := rfl
theorem aslAcc : Statement (.aslAcc) := rfl
theorem xxx0b : Statement (.xxx0b) := rfl
theorem nopAbs0c (w : Addr) : Statement (.nopAbs0c w) := rfl
theorem oraAbs (w : Addr) : Statement (.oraAbs w) := rfl
theorem aslAbs (w : Addr) : Statement (.aslAbs w) := rfl
theorem sloAbs (w : Addr) : Statement (.sloAbs w) := rfl
theorem bpl (d : Int) : Statement (.bpl d) := rfl
theorem oraIzy (z : Byte) : Statement (.oraIzy z) := rfl
theorem xxx12 : Statement (.xxx12) := rfl
theorem sloIzy (z : Byte) : Statement (.sloIzy z) := rfl
theorem nopZpx14 (z : Byte) : Statement (.nopZpx14 z) := rfl
theorem oraZpx (z : Byte) : Statement (.oraZpx z) := rfl
theorem aslZpx (z : Byte) : Statement (.aslZpx z) := rfl
theorem sloZpx (z : Byte) : Statement (.sloZpx z) := rfl
theorem clc : Statement (.clc) := rfl
theorem oraAby (w : Addr) : Statement (.oraAby w) := rfl
theorem nopImp1a : Statement (.nopImp1a) := rfl
theorem sloAby (w : Addr) : Statement (.sloAby w) := rfl
theorem nopAbx1c (w : Addr) : Statement (.nopAbx1c w) := rfl
theorem oraAbx (w : Addr) : Statement (.oraAbx w) := rfl
theorem aslAbx (w : Addr) : Statement (.aslAbx w) := rfl
theorem sloAbx (w : Addr) : Statement (.sloAbx w) := rfl
theorem jsr (w : Addr) : Statement (.jsr w) := rfl
theorem andIzx (z : Byte) : Statement (.andIzx z) := rfl
theorem xxx22 : Statement (.xxx22) := rfl
theorem rlaIzx (z : Byte) : Statement (.rlaIzx z) := rfl
theorem bitZp0 (z : Byte) : Statement (.bitZp0 z) := rfl
theorem andZp0 (z : Byte) : Statement (.andZp0 z) := rfl
theorem rolZp0 (z : Byte) : Statement (.rolZp0 z) := rfl
theorem rlaZp0 (z : Byte) : Statement (.rlaZp0 z) := rfl
theorem plp : Statement (.plp) := rfl
theorem andImm (n : Byte) : Statement (.andImm n) := rfl
theorem rolAcc : Statement (.rolAcc) := rfl
theorem xxx2b : Statement (.xxx2b) := rfl
theorem bitAbs (w : Addr) : Statement (.bitAbs w) := rfl
theorem andAbs (w : Addr) : Statement (.andAbs w) := rfl
theorem rolAbs (w : Addr) : Statement (.rolAbs w) := rfl
theorem rlaAbs (w : Addr) : Statement (.rlaAbs w) := rfl
theorem bmi (d : Int) : Statement (.bmi d) := rfl
theorem andIzy (z : Byte) : Statement (.andIzy z) := rfl
theorem xxx32 : Statement (.xxx32) := rfl
theorem rlaIzy (z : Byte) : Statement (.rlaIzy z) := rfl
theorem nopZpx34 (z : Byte) : Statement (.nopZpx34 z) := rfl
theorem andZpx (z : Byte) : Statement (.andZpx z) := rfl
theorem rolZpx (z : Byte) : Statement (.rolZpx z) := rfl
theorem rlaZpx (z : Byte) : Statement (.rlaZpx z) := rfl
theorem sec : Statement (.sec) := rfl
theorem andAby (w : Addr) : Statement (.andAby w) := rfl
theorem nopImp3a : Statement (.nopImp3a) := rfl
theorem rlaAby (w : Addr) : Statement (.rlaAby w) := rfl
theorem nopAbx3c (w : Addr) : Statement (.nopAbx3c w) := rfl
theorem andAbx (w : Addr) : Statement (.andAbx w) := rfl
theorem rolAbx (w : Addr) : Statement (.rolAbx w) := rfl
theorem rlaAbx (w : Addr) : Statement (.rlaAbx w) := rfl
theorem rti : Statement (.rti) := rfl
theorem eorIzx (z : Byte) : Statement (.eorIzx z) := rfl
theorem xxx42 : Statement (.xxx42) := rfl
theorem sreIzx (z : Byte) : Statement (.sreIzx z) := rfl
theorem nopZp044 (z : Byte) : Statement (.nopZp044 z) := rfl
theorem eorZp0 (z : Byte) : Statement (.eorZp0 z) := rfl
theorem lsrZp0 (z : Byte) : Statement (.lsrZp0 z) := rfl
theorem sreZp0 (z : Byte) : Statement (.sreZp0 z) := rfl
theorem pha : Statement (.pha) := rfl
theorem eorImm (n : Byte) : Statement (.eorImm n) := rfl
theorem lsrAcc : Statement (.lsrAcc) := rfl
theorem xxx4b : Statement (.xxx4b) := rfl
theorem jmpAbs (w : Addr) : Statement (.jmpAbs w) := rfl
theorem eorAbs (w : Addr) : Statement (.eorAbs w) := rfl
theorem lsrAbs (w : Addr) : Statement (.lsrAbs w) := rfl
theorem sreAbs (w : Addr) : Statement (.sreAbs w) := rfl
theorem bvc (d : Int) : Statement (.bvc d) := rfl
theorem eorIzy (z : Byte) : Statement (.eorIzy z) := rfl
theorem xxx52 : Statement (.xxx52) := rfl
theorem sreIzy (z : Byte) : Statement (.sreIzy z) := rfl
theorem nopZpx54 (z : Byte) : Statement (.nopZpx54 z) := rfl
theorem eorZpx (z : Byte) : Statement (.eorZpx z) := rfl
theorem lsrZpx (z : Byte) : Statement (.lsrZpx z) := rfl
theorem sreZpx (z : Byte) : Statement (.sreZpx z) := rfl
theorem cli : Statement (.cli) := rfl
theorem eorAby (w : Addr) : Statement (.eorAby w) := rfl
theorem nopImp5a : Statement (.nopImp5a) := rfl
theorem sreAby (w : Addr) : Statement (.sreAby w) := rfl
theorem nopAbx5c (w : Addr) : Statement (.nopAbx5c w) := rfl
theorem eorAbx (w : Addr) : Statement (.eorAbx w) := rfl
theorem lsrAbx (w : Addr) : Statement (.lsrAbx w) := rfl
theorem sreAbx (w : Addr) : Statement (.sreAbx w) := rfl
theorem rts : Statement (.rts) := rfl
theorem adcIzx (z : Byte) : Statement (.adcIzx z) := rfl
theorem xxx62 : Statement (.xxx62) := rfl
theorem rraIzx (z : Byte) : Statement (.rraIzx z) := rfl
theorem nopZp064 (z : Byte) : Statement (.nopZp064 z) := rfl
theorem adcZp0 (z : Byte) : Statement (.adcZp0 z) := rfl
theorem rorZp0 (z : Byte) : Statement (.rorZp0 z) := rfl
theorem rraZp0 (z : Byte) : Statement (.rraZp0 z) := rfl
theorem pla : Statement (.pla) := rfl
theorem adcImm (n : Byte) : Statement (.adcImm n) := rfl
theorem rorAcc : Statement (.rorAcc) := rfl
theorem xxx6b : Statement (.xxx6b) := rfl
theorem jmpInd (w : Addr) : Statement (.jmpInd w) := rfl
theorem adcAbs (w : Addr) : Statement (.adcAbs w) := rfl
theorem rorAbs (w : Addr) : Statement (.rorAbs w) := rfl
theorem rraAbs (w : Addr) : Statement (.rraAbs w) := rfl
theorem bvs (d : Int) : Statement (.bvs d) := rfl
theorem adcIzy (z : Byte) : Statement (.adcIzy z) := rfl
theorem xxx72 : Statement (.xxx72) := rfl
theorem rraIzy (z : Byte) : Statement (.rraIzy z) := rfl
theorem nopZpx74 (z : Byte) : Statement (.nopZpx74 z) := rfl
theorem adcZpx (z : Byte) : Statement (.adcZpx z) := rfl
theorem rorZpx (z : Byte) : Statement (.rorZpx z) := rfl
theorem rraZpx (z : Byte) : Statement (.rraZpx z) := rfl
theorem sei : Statement (.sei) := rfl
theorem adcAby (w : Addr) : Statement (.adcAby w) := rfl
theorem nopImp7a : Statement (.nopImp7a) := rfl
theorem rraAby (w : Addr) : Statement (.rraAby w) := rfl
theorem nopAbx7c (w : Addr) : Statement (.nopAbx7c w) := rfl
theorem adcAbx (w : Addr) : Statement (.adcAbx w) := rfl
theorem rorAbx (w : Addr) : Statement (.rorAbx w) := rfl
theorem rraAbx (w : Addr) : Statement (.rraAbx w) := rfl
theorem nopImm80 (n : Byte) : Statement (.nopImm80 n) := rfl
theorem staIzx (z : Byte) : Statement (.staIzx z) := rfl
theorem nopImm82 (n : Byte) : Statement (.nopImm82 n) := rfl
theorem saxIzx (z : Byte) : Statement (.saxIzx z) := rfl
theorem styZp0 (z : Byte) : Statement (.styZp0 z) := rfl
theorem staZp0 (z : Byte) : Statement (.staZp0 z) := rfl
theorem stxZp0 (z : Byte) : Statement (.stxZp0 z) := rfl
theorem saxZp0 (z : Byte) : Statement (.saxZp0 z) := rfl
theorem dey : Statement (.dey) := rfl
theorem nopImm89 (n : Byte) : Statement (.nopImm89 n) := rfl
theorem txa : Statement (.txa) := rfl
theorem xxx8b : Statement (.xxx8b) := rfl
theorem styAbs (w : Addr) : Statement (.styAbs w) := rfl
theorem staAbs (w : Addr) : Statement (.staAbs w) := rfl
theorem stxAbs (w : Addr) : Statement (.stxAbs w) := rfl
theorem saxAbs (w : Addr) : Statement (.saxAbs w) := rfl
theorem bcc (d : Int) : Statement (.bcc d) := rfl
theorem staIzy (z : Byte) : Statement (.staIzy z) := rfl
theorem xxx92 : Statement (.xxx92) := rfl
theorem xxx93 : Statement (.xxx93) := rfl
theorem styZpx (z : Byte) : Statement (.styZpx z) := rfl
theorem staZpx (z : Byte) : Statement (.staZpx z) := rfl
theorem stxZpy (z : Byte) : Statement (.stxZpy z) := rfl
theorem saxZpy (z : Byte) : Statement (.saxZpy z) := rfl
theorem tya : Statement (.tya) := rfl
theorem staAby (w : Addr) : Statement (.staAby w) := rfl
theorem txs : Statement (.txs) := rfl
theorem xxx9b : Statement (.xxx9b) := rfl
theorem xxx9c : Statement (.xxx9c) := rfl
theorem staAbx (w : Addr) : Statement (.staAbx w) := rfl
theorem xxx9e : Statement (.xxx9e) := rfl
theorem xxx9f : Statement (.xxx9f) := rfl
theorem ldyImm (n : Byte) : Statement (.ldyImm n) := rfl
theorem ldaIzx (z : Byte) : Statement (.ldaIzx z) := rfl
theorem ldxImm (n : Byte) : Statement (.ldxImm n) := rfl
theorem laxIzx (z : Byte) : Statement (.laxIzx z) := rfl
theorem ldyZp0 (z : Byte) : Statement (.ldyZp0 z) := rfl
theorem ldaZp0 (z : Byte) : Statement (.ldaZp0 z) := rfl
theorem ldxZp0 (z : Byte) : Statement (.ldxZp0 z) := rfl
theorem laxZp0 (z : Byte) : Statement (.laxZp0 z) := rfl
theorem tay : Statement (.tay) := rfl
theorem ldaImm (n : Byte) : Statement (.ldaImm n) := rfl
theorem tax : Statement (.tax) := rfl
theorem xxxab : Statement (.xxxab) := rfl
theorem ldyAbs (w : Addr) : Statement (.ldyAbs w) := rfl
theorem ldaAbs (w : Addr) : Statement (.ldaAbs w) := rfl
theorem ldxAbs (w : Addr) : Statement (.ldxAbs w) := rfl
theorem laxAbs (w : Addr) : Statement (.laxAbs w) := rfl
theorem bcs (d : Int) : Statement (.bcs d) := rfl
theorem ldaIzy (z : Byte) : Statement (.ldaIzy z) := rfl
theorem xxxb2 : Statement (.xxxb2) := rfl
theorem laxIzy (z : Byte) : Statement (.laxIzy z) := rfl
theorem ldyZpx (z : Byte) : Statement (.ldyZpx z) := rfl
theorem ldaZpx (z : Byte) : Statement (.ldaZpx z) := rfl
theorem ldxZpy (z : Byte) : Statement (.ldxZpy z) := rfl
theorem laxZpy (z : Byte) : Statement (.laxZpy z) := rfl
theorem clv : Statement (.clv) := rfl
theorem ldaAby (w : Addr) : Statement (.ldaAby w) := rfl
theorem tsx : Statement (.tsx) := rfl
theorem xxxbb : Statement (.xxxbb) := rfl
theorem ldyAbx (w : Addr) : Statement (.ldyAbx w) := rfl
theorem ldaAbx (w : Addr) : Statement (.ldaAbx w) := rfl
theorem ldxAby (w : Addr) : Statement (.ldxAby w) := rfl
theorem laxAby (w : Addr) : Statement (.laxAby w) := rfl
theorem cpyImm (n : Byte) : Statement (.cpyImm n) := rfl
theorem cmpIzx (z : Byte) : Statement (.cmpIzx z) := rfl
theorem nopImmc2 (n : Byte) : Statement (.nopImmc2 n) := rfl
theorem dcpIzx (z : Byte) : Statement (.dcpIzx z) := rfl
theorem cpyZp0 (z : Byte) : Statement (.cpyZp0 z) := rfl
theorem cmpZp0 (z : Byte) : Statement (.cmpZp0 z) := rfl
theorem decZp0 (z : Byte) : Statement (.decZp0 z) := rfl
theorem dcpZp0 (z : Byte) : Statement (.dcpZp0 z) := rfl
theorem iny : Statement (.iny) := rfl
theorem cmpImm (n : Byte) : Statement (.cmpImm n) := rfl
theorem dex : Statement (.dex) := rfl
theorem xxxcb : Statement (.xxxcb) := rfl
theorem cpyAbs (w : Addr) : Statement (.cpyAbs w) := rfl
theorem cmpAbs (w : Addr) : Statement (.cmpAbs w) := rfl
theorem decAbs (w : Addr) : Statement (.decAbs w) := rfl
theorem dcpAbs (w : Addr) : Statement (.dcpAbs w) := rfl
theorem bne (d : Int) : Statement (.bne d) := rfl
theorem cmpIzy (z : Byte) : Statement (.cmpIzy z) := rfl
theorem xxxd2 : Statement (.xxxd2) := rfl
theorem dcpIzy (z : Byte) : Statement (.dcpIzy z) := rfl
theorem nopZpxd4 (z : Byte) : Statement (.nopZpxd4 z) := rfl
theorem cmpZpx (z : Byte) : Statement (.cmpZpx z) := rfl
theorem decZpx (z : Byte) : Statement (.decZpx z) := rfl
theorem dcpZpx (z : Byte) : Statement (.dcpZpx z) := rfl
theorem cld : Statement (.cld) := rfl
theorem cmpAby (w : Addr) : Statement (.cmpAby w) := rfl
theorem nopImpda : Statement (.nopImpda) := rfl
theorem dcpAby (w : Addr) : Statement (.dcpAby w) := rfl
theorem nopAbxdc (w : Addr) : Statement (.nopAbxdc w) := rfl
theorem cmpAbx (w : Addr) : Statement (.cmpAbx w) := rfl
theorem decAbx (w : Addr) : Statement (.decAbx w) := rfl
theorem dcpAbx (w : Addr) : Statement (.dcpAbx w) := rfl
theorem cpxImm (n : Byte) : Statement (.cpxImm n) := rfl
theorem sbcIzx (z : Byte) : Statement (.sbcIzx z) := rfl
theorem nopImme2 (n : Byte) : Statement (.nopImme2 n) := rfl
theorem iscIzx (z : Byte) : Statement (.iscIzx z) := rfl
theorem cpxZp0 (z : Byte) : Statement (.cpxZp0 z) := rfl
theorem sbcZp0 (z : Byte) : Statement (.sbcZp0 z) := rfl
theorem incZp0 (z : Byte) : Statement (.incZp0 z) := rfl
theorem iscZp0 (z : Byte) : Statement (.iscZp0 z) := rfl
theorem inx : Statement (.inx) := rfl
theorem sbcImm (n : Byte) : Statement (.sbcImm n) := rfl
theorem nop : Statement (.nop) := rfl
theorem sbcImmEb (n : Byte) : Statement (.sbcImmEb n) := rfl
theorem cpxAbs (w : Addr) : Statement (.cpxAbs w) := rfl
theorem sbcAbs (w : Addr) : Statement (.sbcAbs w) := rfl
theorem incAbs (w : Addr) : Statement (.incAbs w) := rfl
theorem iscAbs (w : Addr) : Statement (.iscAbs w) := rfl
theorem beq (d : Int) : Statement (.beq d) := rfl
theorem sbcIzy (z : Byte) : Statement (.sbcIzy z) := rfl
theorem xxxf2 : Statement (.xxxf2) := rfl
theorem iscIzy (z : Byte) : Statement (.iscIzy z) := rfl
theorem nopZpxf4 (z : Byte) : Statement (.nopZpxf4 z) := rfl
theorem sbcZpx (z : Byte) : Statement (.sbcZpx z) := rfl
theorem incZpx (z : Byte) : Statement (.incZpx z) := rfl
theorem iscZpx (z : Byte) : Statement (.iscZpx z) := rfl
theorem sed : Statement (.sed) := rfl
theorem sbcAby (w : Addr) : Statement (.sbcAby w) := rfl
theorem nopImpfa : Statement (.nopImpfa) := rfl
theorem iscAby (w : Addr) : Statement (.iscAby w) := rfl
theorem nopAbxfc (w : Addr) : Statement (.nopAbxfc w) := rfl
theorem sbcAbx (w : Addr) : Statement (.sbcAbx w) := rfl
theorem incAbx (w : Addr) : Statement (.incAbx w) := rfl
theorem iscAbx (w : Addr) : Statement (.iscAbx w) := rfl

end Sys2Proof.Laws.Length
end

