-- ==== Sys2Proof/Laws/Within.lean ====
section
/-! SUPPORT. What the inside of an instruction can do, said once for every instruction: `Within` is kept by every bus
access and every register update, composes, and so holds of every meaning and of the fetch. -/

namespace Sys2Proof.Machine

/-- What no bus access and no register update breaks. -/
structure Within (s t : State) : Prop where
  cart : t.cart = s.cart
  params : t.params = s.params
  irqLine : t.irqLine = s.irqLine
  nmiPending : t.nmiPending = s.nmiPending
  master : t.master = s.master
  cycles : t.cycles = s.cycles
  buttons0 : t.ctl0.buttons = s.ctl0.buttons
  buttons1 : t.ctl1.buttons = s.ctl1.buttons
  scanline : t.ppu.scanline = s.ppu.scanline
  dot : t.ppu.dot = s.ppu.dot
  frameComplete : t.ppu.frameComplete = s.ppu.frameComplete
  frameCount : t.ppu.frameCount = s.ppu.frameCount
  status : (s.ppu.status &&& 0x7F#8) = 0#8 → (t.ppu.status &&& 0x7F#8) = 0#8
  ram : s.ram.wf ramSize = true → t.ram.wf ramSize = true
  vram : s.vram.wf vramSize = true → t.vram.wf vramSize = true
  pal : s.pal.wf palSize = true → t.pal.wf palSize = true
  fault : ∀ f, s.fault = some f → t.fault = some f
  halted : s.halted = true → t.halted = true
  seen : s.romWriteSeen = true → t.romWriteSeen = true
  haltedFault : (s.halted = true → s.fault.isSome = true) → t.halted = true → t.fault.isSome = true

theorem Within.refl (s : State) : Within s s := by constructor <;> first | rfl | exact id | exact fun _ => id

theorem Within.trans {s t u : State} (h : Within s t) (k : Within t u) : Within s u where
  cart := k.cart.trans h.cart
  params := k.params.trans h.params
  irqLine := k.irqLine.trans h.irqLine
  nmiPending := k.nmiPending.trans h.nmiPending
  master := k.master.trans h.master
  cycles := k.cycles.trans h.cycles
  buttons0 := k.buttons0.trans h.buttons0
  buttons1 := k.buttons1.trans h.buttons1
  scanline := k.scanline.trans h.scanline
  dot := k.dot.trans h.dot
  frameComplete := k.frameComplete.trans h.frameComplete
  frameCount := k.frameCount.trans h.frameCount
  status := fun q => k.status (h.status q)
  ram := fun q => k.ram (h.ram q)
  vram := fun q => k.vram (h.vram q)
  pal := fun q => k.pal (h.pal q)
  fault := fun f q => k.fault f (h.fault f q)
  halted := fun q => k.halted (h.halted q)
  seen := fun q => k.seen (h.seen q)
  haltedFault := fun q => k.haltedFault (h.haltedFault q)

/-- A change of the CPU's own registers, working fields and counts of the instruction. -/
theorem within_cpu (s : State) (a x y sp p : Byte) (pc : Addr) (remaining : Nat) (opcode fetched : Byte) (ea : Addr)
    (instructions : BitVec 64) :
    Within s { s with a := a, x := x, y := y, sp := sp, p := p, pc := pc, remaining := remaining, opcode := opcode,
                      fetched := fetched, ea := ea, instructions := instructions } := by
  constructor <;> first | rfl | exact id | exact fun _ => id

theorem within_setPc (v : Addr) (s : State) : Within s (setPc v s) := within_cpu s _ _ _ _ _ v _ _ _ _ _
theorem within_setEa (v : Addr) (s : State) : Within s (setEa v s) := within_cpu s _ _ _ _ _ _ _ _ _ v _
theorem within_setSp (v : Byte) (s : State) : Within s (setSp v s) := within_cpu s _ _ _ v _ _ _ _ _ _ _
theorem within_setP (v : Byte) (s : State) : Within s (setP v s) := within_cpu s _ _ _ _ v _ _ _ _ _ _
theorem within_setFetched (v : Byte) (s : State) : Within s (setFetched v s) := within_cpu s _ _ _ _ _ _ _ _ v _ _
theorem within_setOpcode (v : Byte) (s : State) : Within s (setOpcode v s) := within_cpu s _ _ _ _ _ _ _ v _ _ _
theorem within_setRemaining (n : Nat) (s : State) : Within s (setRemaining n s) := within_cpu s _ _ _ _ _ _ n _ _ _ _
theorem within_setFlag (f : Flag) (b : Bool) (s : State) : Within s (setFlag f b s) := within_setP (putFlag f b s.p) s

theorem within_computes {op : Byte → State → State} (h : Computes op) (v : Byte) (u : State) : Within u (op v u) := by
  rw [h v u]
  exact within_cpu u _ _ _ _ _ _ _ _ _ _ _

/-! ### Bus accesses -/

theorem within_busReadEffect (b : Addr) (s : State) : Within s (busReadEffect b s) := by
  have hs : (s.ppu.status &&& 0x7F#8) = 0#8 → ((busReadEffect b s).ppu.status &&& 0x7F#8) = 0#8 := by
    intro h
    unfold busReadEffect
    split <;> try exact h
    generalize ppuRegOf b = r
    cases r <;> first | exact h | skip
    simp only [ppuRegReadEffect]
    rw [BitVec.and_assoc]; exact h
  have hc0 : (busReadEffect b s).ctl0.buttons = s.ctl0.buttons := by
    unfold busReadEffect
    split <;> first | rfl | skip
    generalize ppuRegOf b = r
    cases r <;> rfl
  have hc1 : (busReadEffect b s).ctl1.buttons = s.ctl1.buttons := by
    unfold busReadEffect
    split <;> first | rfl | skip
    generalize ppuRegOf b = r
    cases r <;> rfl
  constructor <;> simp_all

theorem within_memRead (b : Addr) (s : State) : Within s (memRead b s).2 := within_busReadEffect b s

theorem within_memRead16 (b : Addr) (s : State) : Within s (memRead16 b s).2 :=
  (within_memRead b s).trans (within_memRead _ _)

theorem within_raiseRomWrite (bus : Bus) (b : Addr) (v : Byte) (s : State) : Within s (raiseRomWrite bus b v s) := by
  unfold raiseRomWrite
  split
  · constructor <;> first | rfl | exact id | exact fun _ => id | exact fun _ => rfl
  · unfold recordFault
    cases hf : s.fault with
    | none => constructor <;> simp_all
    | some f => constructor <;> simp_all

theorem within_ppuWrite (b : Addr) (v : Byte) (s : State) : Within s (ppuWrite b v s) := by
  unfold ppuWrite
  split
  · exact within_raiseRomWrite _ _ _ _
  · constructor <;> first | rfl | exact id | exact fun _ => id | skip
    exact fun h => Memory.wf_write h _ (vramIndex_lt _ _)
  · constructor <;> first | rfl | exact id | exact fun _ => id | skip
    exact fun h => Memory.wf_write h _ (palIndex_lt _)

/-- A change of the PPU's address and buffer registers. -/
theorem within_ppuRegs (s : State) (ctrl mask : Byte) (v t : BitVec 15) (x : BitVec 3) (w : Bool) (buffer : Byte) :
    Within s { s with ppu := { s.ppu with ctrl := ctrl, mask := mask, v := v, t := t, x := x, w := w, buffer := buffer } } := by
  constructor <;> first | rfl | exact id | exact fun _ => id

theorem within_ppuRegWrite (r : PpuReg) (v : Byte) (s : State) : Within s (ppuRegWrite r v s) := by
  cases r
  · exact within_ppuRegs s v _ _ _ _ _ _
  · exact within_ppuRegs s _ v _ _ _ _ _
  · exact Within.refl s
  · exact Within.refl s
  · exact Within.refl s
  · simp only [ppuRegWrite, writePpuScroll]
    split
    · exact within_ppuRegs s _ _ _ _ _ _ _
    · exact within_ppuRegs s _ _ _ _ _ _ _
  · simp only [ppuRegWrite, writePpuAddr]
    split
    · exact within_ppuRegs s _ _ _ _ _ _ _
    · exact within_ppuRegs s _ _ _ _ _ _ _
  · exact (within_ppuWrite _ v s).trans (within_ppuRegs _ _ _ _ _ _ _ _)

theorem within_memWrite (b : Addr) (v : Byte) (s : State) : Within s (memWrite b v s) := by
  unfold memWrite
  split
  · constructor <;> first | rfl | exact id | exact fun _ => id | skip
    exact fun h => Memory.wf_write h _ (ramIndex_lt _)
  · exact within_ppuRegWrite _ _ _
  · constructor <;> first | rfl | exact id | exact fun _ => id
  · exact within_raiseRomWrite _ _ _ _
  all_goals exact Within.refl s

theorem within_push (v : Byte) (s : State) : Within s (push v s) :=
  (within_memWrite _ v s).trans (within_setSp _ _)

theorem within_pull (s : State) : Within s (pull s).2 := (within_setSp _ s).trans (within_memRead _ _)

theorem within_takeException (ret : Addr) (st : Byte) (v : Addr) (s : State) : Within s (takeException ret st v s) :=
  ((((within_push _ s).trans (within_push _ _)).trans (within_push _ _)).trans (within_setFlag _ _ _)).trans
    ((within_memRead16 _ _).trans (within_setPc _ _))

theorem within_returnFromException (s : State) : Within s (returnFromException s) :=
  ((within_pull s).trans (within_setP _ _)).trans (((within_pull _).trans (within_pull _)).trans (within_setPc _ _))

theorem within_interruptEntry (v : Addr) (n : Nat) (s : State) : Within s (interruptEntry v n s) :=
  (within_takeException _ _ _ s).trans (within_setRemaining _ _)

theorem within_readAtPc (s : State) : Within s (readAtPc s).2 := (within_memRead _ s).trans (within_setPc _ _)

theorem within_fetchInstr (s : State) : Within s (fetchInstr s).2 := by
  have h1 : Within s (fetchOpcode s) := (within_readAtPc s).trans (within_setOpcode _ _)
  refine h1.trans ?_
  unfold fetchInstr fetchOperands
  split
  · exact Within.refl _
  · exact within_setPc _ _
  · exact within_readAtPc _
  · exact (within_readAtPc _).trans (within_readAtPc _)

/-! ### Instructions -/

/-- What every meaning answers: a next state within the instruction, which owes 2 to 8 cycles and counts, unless an
illegal byte under policy halt has halted the system. -/
def Completes (s : State) (o : Out) : Prop :=
  ∃ t, o = .next t ∧ Within s t ∧
    ((2 ≤ t.remaining ∧ t.remaining ≤ 8 ∧ t.instructions = s.instructions + 1#64) ∨
      (t.halted = true ∧ t.remaining = s.remaining))

theorem completes_finish {base extra : Nat} {s u : State} (h : Within s u) (hi : u.instructions = s.instructions)
    (h2 : 2 ≤ base + extra) (h8 : base + extra ≤ 8) : Completes s (finish base extra u) :=
  ⟨_, rfl, h.trans (within_cpu u _ _ _ _ _ _ _ _ _ _ _), .inl ⟨h2, h8, by simp [hi]⟩⟩

theorem extraCycle_le (m w : Bool) : extraCycle m w ≤ 1 := by unfold extraCycle; split <;> omega

theorem completes_readInstr {base : Nat} {wants : Bool} {m : ModeResult} {op : Byte → State → State} {s : State}
    (hop : Computes op) (h2 : 2 ≤ base) (h7 : base ≤ 7) : Completes s (readInstr base wants m op s) := by
  have he := extraCycle_le m.crossed wants
  rw [readInstr_eq]
  refine completes_finish ?_ ?_ (by omega) (by omega)
  · exact (within_busReadEffect m.ea s).trans ((within_setEa _ _).trans ((within_setFetched _ _).trans
      (within_computes hop _ _)))
  · rw [hop]; simp

theorem completes_readImm {base : Nat} {n : Byte} {op : Byte → State → State} {s : State}
    (hop : Computes op) (h2 : 2 ≤ base) (h7 : base ≤ 7) : Completes s (readImm base n op s) := by
  refine completes_finish ?_ ?_ (by omega) (by omega)
  · exact (within_setEa _ _).trans ((within_setFetched _ _).trans (within_computes hop _ _))
  · rw [hop]; simp

theorem completes_storeInstr {base : Nat} {m : ModeResult} {v : Byte} {s : State}
    (h2 : 2 ≤ base) (h8 : base ≤ 8) : Completes s (storeInstr base m v s) := by
  rw [storeInstr_eq]
  exact completes_finish ((within_memWrite _ _ _).trans (within_setEa _ _)) (by simp) (by omega) (by omega)

theorem completes_rmwInstr {base : Nat} {m : ModeResult} {f : Byte → State → Byte × State}
    {after : Byte → State → State} {s : State} (hf : ∀ v u, (f v u).2 = setP (f v u).2.p u) (hop : Computes after)
    (h2 : 2 ≤ base) (h8 : base ≤ 8) : Completes s (rmwInstr base m f after s) := by
  rw [rmwInstr_eq]
  dsimp only
  refine completes_finish ?_ ?_ (by omega) (by omega)
  · refine ((within_busReadEffect m.ea s).trans ((within_setEa m.ea _).trans (within_setFetched (busValue m.ea s) _))).trans ?_
    rw [hf]
    exact (within_setP _ _).trans ((within_memWrite _ _ _).trans (within_computes hop _ _))
  · rw [hop, hf]; simp

theorem completes_accInstr {base : Nat} {f : Byte → State → Byte × State} {s : State}
    (hf : ∀ v u, (f v u).2 = setP (f v u).2.p u) (h2 : 2 ≤ base) (h8 : base ≤ 8) :
    Completes s (accInstr base f s) := by
  refine completes_finish ?_ ?_ (by omega) (by omega)
  · refine (within_setFetched s.a _).trans ?_
    rw [hf]
    exact (within_setP (f s.a (setFetched s.a s)).2.p _).trans (within_cpu _ _ _ _ _ _ _ _ _ _ _ _)
  · rw [hf]; rfl

theorem completes_nopInstr {base : Nat} {m : ModeResult} {s : State} (h2 : 2 ≤ base) (h7 : base ≤ 7) :
    Completes s (nopInstr base m s) := by
  have he := extraCycle_le m.crossed true
  exact completes_finish (within_setEa _ _) rfl (by omega) (by omega)

theorem completes_branchInstr {c : Bool} {d : Int} {s : State} : Completes s (branchInstr c d s) := by
  have he : branchExtra c (branchTarget d s) s.pc ≤ 2 := by unfold branchExtra; split <;> (try split) <;> omega
  refine completes_finish ?_ ?_ (by omega) (by omega)
  · cases c
    · exact within_setEa _ _
    · exact (within_setEa _ _).trans (within_setPc _ _)
  · cases c <;> rfl

theorem completes_illegalInstr {op : Byte} {s : State} : Completes s (illegalInstr op s) := by
  have hw : Within s (raiseIllegalOpcode (s.pc - 1#16) op s) := by
    unfold raiseIllegalOpcode recordFault
    cases hf : s.fault <;> constructor <;> simp_all
  have hf : (raiseIllegalOpcode (s.pc - 1#16) op s).fault.isSome = true := by
    unfold raiseIllegalOpcode recordFault
    cases hf : s.fault <;> simp [hf]
  unfold illegalInstr
  cases hp : s.params.illegalOpcode
  · refine ⟨_, rfl, ?_, .inr ⟨rfl, ?_⟩⟩
    · refine hw.trans ?_
      constructor <;> first | rfl | exact id | exact fun _ => id | exact fun _ => rfl | exact fun _ _ => hf
    · simp [raiseIllegalOpcode]
  · exact completes_finish hw (by simp [raiseIllegalOpcode]) (by omega) (by omega)

theorem completes_cpu {base extra : Nat} {s : State} {a x y sp p : Byte} {pc ea : Addr}
    (h2 : 2 ≤ base + extra) (h8 : base + extra ≤ 8) :
    Completes s (finish base extra { s with a := a, x := x, y := y, sp := sp, p := p, pc := pc, ea := ea }) :=
  completes_finish (within_cpu s _ _ _ _ _ _ _ _ _ _ _) rfl h2 h8

theorem completes_push {base : Nat} {v : Byte} {s : State} (h2 : 2 ≤ base) (h8 : base ≤ 8) :
    Completes s (finish base 0 (push v s)) :=
  completes_finish (within_push _ s) (by simp [push_eq]) (by omega) (by omega)

theorem completes_pullPLA {s : State} : Completes s (execPla s) :=
  completes_finish ((within_pull s).trans (within_cpu _ _ _ _ _ _ _ _ _ _ _ _)) (by simp [pull_eq]) (by decide) (by decide)

theorem completes_pullPLP {s : State} : Completes s (execPlp s) :=
  completes_finish ((within_pull s).trans (within_setP _ _)) (by simp [pull_eq]) (by decide) (by decide)

theorem completes_brk {s : State} : Completes s (execBrk s) :=
  completes_finish (within_takeException _ _ _ s)
    (by rw [takeException_eq _ _ _ regionOf_vectors.2.2.1 regionOf_vectors.2.2.2.1]) (by decide) (by decide)

theorem completes_rti {s : State} : Completes s (execRti s) :=
  completes_finish (within_returnFromException s) (by simp [returnFromException_eq]) (by decide) (by decide)

theorem completes_jsr {w : Addr} {s : State} : Completes s (execJsr w s) :=
  completes_finish ((within_setEa w s).trans (((within_push _ _).trans (within_push _ _)).trans (within_setPc w _)))
    (by simp [jumpToSubroutine, push_eq]) (by decide) (by decide)

theorem completes_rts {s : State} : Completes s (execRts s) :=
  completes_finish (((within_pull s).trans (within_pull _)).trans (within_setPc _ _))
    (by simp [returnFromSubroutine, pull_eq]) (by decide) (by decide)

theorem completes_jmpAbs {w : Addr} {s : State} : Completes s (execJmpAbs w s) :=
  completes_finish ((within_setEa w s).trans (within_setPc w _)) rfl (by decide) (by decide)

theorem completes_jmpInd {w : Addr} {s : State} : Completes s (execJmpInd w s) :=
  completes_finish (((within_memRead w s).trans (within_memRead (indHighAddr w) _)).trans ((within_setEa _ _).trans
    (within_setPc _ _))) (by simp [modeInd, memRead]) (by decide) (by decide)

/-- What every instruction does, and that it completes. -/
theorem exec_completes (i : Instr) (s : State) : Completes s (exec i s) := by
  cases i with
  | brk => exact completes_brk
  | oraIzx z => exact completes_readInstr (fun _ _ => rfl) (by decide) (by decide)
  | xxx02 => exact completes_illegalInstr
  | sloIzx z => exact completes_rmwInstr (fun _ _ => rfl) (fun _ _ => rfl) (by decide) (by decide)
  | nopZp004 z => exact completes_nopInstr (by decide) (by decide)
  | oraZp0 z => exact completes_readInstr (fun _ _ => rfl) (by decide) (by decide)
  | aslZp0 z => exact completes_rmwInstr (fun _ _ => rfl) (fun _ _ => rfl) (by decide) (by decide)
  | sloZp0 z => exact completes_rmwInstr (fun _ _ => rfl) (fun _ _ => rfl) (by decide) (by decide)
  | php => exact completes_push (by decide) (by decide)
  | oraImm n => exact completes_readImm (fun _ _ => rfl) (by decide) (by decide)
  | aslAcc => exact completes_accInstr (fun _ _ => rfl) (by decide) (by decide)
  | xxx0b => exact completes_illegalInstr
  | nopAbs0c w => exact completes_nopInstr (by decide) (by decide)
  | oraAbs w => exact completes_readInstr (fun _ _ => rfl) (by decide) (by decide)
  | aslAbs w => exact completes_rmwInstr (fun _ _ => rfl) (fun _ _ => rfl) (by decide) (by decide)
  | sloAbs w => exact completes_rmwInstr (fun _ _ => rfl) (fun _ _ => rfl) (by decide) (by decide)
  | bpl d => exact completes_branchInstr
  | oraIzy z => exact completes_readInstr (fun _ _ => rfl) (by decide) (by decide)
  | xxx12 => exact completes_illegalInstr
  | sloIzy z => exact completes_rmwInstr (fun _ _ => rfl) (fun _ _ => rfl) (by decide) (by decide)
  | nopZpx14 z => exact completes_nopInstr (by decide) (by decide)
  | oraZpx z => exact completes_readInstr (fun _ _ => rfl) (by decide) (by decide)
  | aslZpx z => exact completes_rmwInstr (fun _ _ => rfl) (fun _ _ => rfl) (by decide) (by decide)
  | sloZpx z => exact completes_rmwInstr (fun _ _ => rfl) (fun _ _ => rfl) (by decide) (by decide)
  | clc => exact completes_cpu (by decide) (by decide)
  | oraAby w => exact completes_readInstr (fun _ _ => rfl) (by decide) (by decide)
  | nopImp1a => exact completes_cpu (by decide) (by decide)
  | sloAby w => exact completes_rmwInstr (fun _ _ => rfl) (fun _ _ => rfl) (by decide) (by decide)
  | nopAbx1c w => exact completes_nopInstr (by decide) (by decide)
  | oraAbx w => exact completes_readInstr (fun _ _ => rfl) (by decide) (by decide)
  | aslAbx w => exact completes_rmwInstr (fun _ _ => rfl) (fun _ _ => rfl) (by decide) (by decide)
  | sloAbx w => exact completes_rmwInstr (fun _ _ => rfl) (fun _ _ => rfl) (by decide) (by decide)
  | jsr w => exact completes_jsr
  | andIzx z => exact completes_readInstr (fun _ _ => rfl) (by decide) (by decide)
  | xxx22 => exact completes_illegalInstr
  | rlaIzx z => exact completes_rmwInstr (fun _ _ => rfl) (fun _ _ => rfl) (by decide) (by decide)
  | bitZp0 z => exact completes_readInstr (fun _ _ => rfl) (by decide) (by decide)
  | andZp0 z => exact completes_readInstr (fun _ _ => rfl) (by decide) (by decide)
  | rolZp0 z => exact completes_rmwInstr (fun _ _ => rfl) (fun _ _ => rfl) (by decide) (by decide)
  | rlaZp0 z => exact completes_rmwInstr (fun _ _ => rfl) (fun _ _ => rfl) (by decide) (by decide)
  | plp => exact completes_pullPLP
  | andImm n => exact completes_readImm (fun _ _ => rfl) (by decide) (by decide)
  | rolAcc => exact completes_accInstr (fun _ _ => rfl) (by decide) (by decide)
  | xxx2b => exact completes_illegalInstr
  | bitAbs w => exact completes_readInstr (fun _ _ => rfl) (by decide) (by decide)
  | andAbs w => exact completes_readInstr (fun _ _ => rfl) (by decide) (by decide)
  | rolAbs w => exact completes_rmwInstr (fun _ _ => rfl) (fun _ _ => rfl) (by decide) (by decide)
  | rlaAbs w => exact completes_rmwInstr (fun _ _ => rfl) (fun _ _ => rfl) (by decide) (by decide)
  | bmi d => exact completes_branchInstr
  | andIzy z => exact completes_readInstr (fun _ _ => rfl) (by decide) (by decide)
  | xxx32 => exact completes_illegalInstr
  | rlaIzy z => exact completes_rmwInstr (fun _ _ => rfl) (fun _ _ => rfl) (by decide) (by decide)
  | nopZpx34 z => exact completes_nopInstr (by decide) (by decide)
  | andZpx z => exact completes_readInstr (fun _ _ => rfl) (by decide) (by decide)
  | rolZpx z => exact completes_rmwInstr (fun _ _ => rfl) (fun _ _ => rfl) (by decide) (by decide)
  | rlaZpx z => exact completes_rmwInstr (fun _ _ => rfl) (fun _ _ => rfl) (by decide) (by decide)
  | sec => exact completes_cpu (by decide) (by decide)
  | andAby w => exact completes_readInstr (fun _ _ => rfl) (by decide) (by decide)
  | nopImp3a => exact completes_cpu (by decide) (by decide)
  | rlaAby w => exact completes_rmwInstr (fun _ _ => rfl) (fun _ _ => rfl) (by decide) (by decide)
  | nopAbx3c w => exact completes_nopInstr (by decide) (by decide)
  | andAbx w => exact completes_readInstr (fun _ _ => rfl) (by decide) (by decide)
  | rolAbx w => exact completes_rmwInstr (fun _ _ => rfl) (fun _ _ => rfl) (by decide) (by decide)
  | rlaAbx w => exact completes_rmwInstr (fun _ _ => rfl) (fun _ _ => rfl) (by decide) (by decide)
  | rti => exact completes_rti
  | eorIzx z => exact completes_readInstr (fun _ _ => rfl) (by decide) (by decide)
  | xxx42 => exact completes_illegalInstr
  | sreIzx z => exact completes_rmwInstr (fun _ _ => rfl) (fun _ _ => rfl) (by decide) (by decide)
  | nopZp044 z => exact completes_nopInstr (by decide) (by decide)
  | eorZp0 z => exact completes_readInstr (fun _ _ => rfl) (by decide) (by decide)
  | lsrZp0 z => exact completes_rmwInstr (fun _ _ => rfl) (fun _ _ => rfl) (by decide) (by decide)
  | sreZp0 z => exact completes_rmwInstr (fun _ _ => rfl) (fun _ _ => rfl) (by decide) (by decide)
  | pha => exact completes_push (by decide) (by decide)
  | eorImm n => exact completes_readImm (fun _ _ => rfl) (by decide) (by decide)
  | lsrAcc => exact completes_accInstr (fun _ _ => rfl) (by decide) (by decide)
  | xxx4b => exact completes_illegalInstr
  | jmpAbs w => exact completes_jmpAbs
  | eorAbs w => exact completes_readInstr (fun _ _ => rfl) (by decide) (by decide)
  | lsrAbs w => exact completes_rmwInstr (fun _ _ => rfl) (fun _ _ => rfl) (by decide) (by decide)
  | sreAbs w => exact completes_rmwInstr (fun _ _ => rfl) (fun _ _ => rfl) (by decide) (by decide)
  | bvc d => exact completes_branchInstr
  | eorIzy z => exact completes_readInstr (fun _ _ => rfl) (by decide) (by decide)
  | xxx52 => exact completes_illegalInstr
  | sreIzy z => exact completes_rmwInstr (fun _ _ => rfl) (fun _ _ => rfl) (by decide) (by decide)
  | nopZpx54 z => exact completes_nopInstr (by decide) (by decide)
  | eorZpx z => exact completes_readInstr (fun _ _ => rfl) (by decide) (by decide)
  | lsrZpx z => exact completes_rmwInstr (fun _ _ => rfl) (fun _ _ => rfl) (by decide) (by decide)
  | sreZpx z => exact completes_rmwInstr (fun _ _ => rfl) (fun _ _ => rfl) (by decide) (by decide)
  | cli => exact completes_cpu (by decide) (by decide)
  | eorAby w => exact completes_readInstr (fun _ _ => rfl) (by decide) (by decide)
  | nopImp5a => exact completes_cpu (by decide) (by decide)
  | sreAby w => exact completes_rmwInstr (fun _ _ => rfl) (fun _ _ => rfl) (by decide) (by decide)
  | nopAbx5c w => exact completes_nopInstr (by decide) (by decide)
  | eorAbx w => exact completes_readInstr (fun _ _ => rfl) (by decide) (by decide)
  | lsrAbx w => exact completes_rmwInstr (fun _ _ => rfl) (fun _ _ => rfl) (by decide) (by decide)
  | sreAbx w => exact completes_rmwInstr (fun _ _ => rfl) (fun _ _ => rfl) (by decide) (by decide)
  | rts => exact completes_rts
  | adcIzx z => exact completes_readInstr (fun _ _ => rfl) (by decide) (by decide)
  | xxx62 => exact completes_illegalInstr
  | rraIzx z => exact completes_rmwInstr (fun _ _ => rfl) (fun _ _ => rfl) (by decide) (by decide)
  | nopZp064 z => exact completes_nopInstr (by decide) (by decide)
  | adcZp0 z => exact completes_readInstr (fun _ _ => rfl) (by decide) (by decide)
  | rorZp0 z => exact completes_rmwInstr (fun _ _ => rfl) (fun _ _ => rfl) (by decide) (by decide)
  | rraZp0 z => exact completes_rmwInstr (fun _ _ => rfl) (fun _ _ => rfl) (by decide) (by decide)
  | pla => exact completes_pullPLA
  | adcImm n => exact completes_readImm (fun _ _ => rfl) (by decide) (by decide)
  | rorAcc => exact completes_accInstr (fun _ _ => rfl) (by decide) (by decide)
  | xxx6b => exact completes_illegalInstr
  | jmpInd w => exact completes_jmpInd
  | adcAbs w => exact completes_readInstr (fun _ _ => rfl) (by decide) (by decide)
  | rorAbs w => exact completes_rmwInstr (fun _ _ => rfl) (fun _ _ => rfl) (by decide) (by decide)
  | rraAbs w => exact completes_rmwInstr (fun _ _ => rfl) (fun _ _ => rfl) (by decide) (by decide)
  | bvs d => exact completes_branchInstr
  | adcIzy z => exact completes_readInstr (fun _ _ => rfl) (by decide) (by decide)
  | xxx72 => exact completes_illegalInstr
  | rraIzy z => exact completes_rmwInstr (fun _ _ => rfl) (fun _ _ => rfl) (by decide) (by decide)
  | nopZpx74 z => exact completes_nopInstr (by decide) (by decide)
  | adcZpx z => exact completes_readInstr (fun _ _ => rfl) (by decide) (by decide)
  | rorZpx z => exact completes_rmwInstr (fun _ _ => rfl) (fun _ _ => rfl) (by decide) (by decide)
  | rraZpx z => exact completes_rmwInstr (fun _ _ => rfl) (fun _ _ => rfl) (by decide) (by decide)
  | sei => exact completes_cpu (by decide) (by decide)
  | adcAby w => exact completes_readInstr (fun _ _ => rfl) (by decide) (by decide)
  | nopImp7a => exact completes_cpu (by decide) (by decide)
  | rraAby w => exact completes_rmwInstr (fun _ _ => rfl) (fun _ _ => rfl) (by decide) (by decide)
  | nopAbx7c w => exact completes_nopInstr (by decide) (by decide)
  | adcAbx w => exact completes_readInstr (fun _ _ => rfl) (by decide) (by decide)
  | rorAbx w => exact completes_rmwInstr (fun _ _ => rfl) (fun _ _ => rfl) (by decide) (by decide)
  | rraAbx w => exact completes_rmwInstr (fun _ _ => rfl) (fun _ _ => rfl) (by decide) (by decide)
  | nopImm80 n => exact completes_nopInstr (by decide) (by decide)
  | staIzx z => exact completes_storeInstr (by decide) (by decide)
  | nopImm82 n => exact completes_nopInstr (by decide) (by decide)
  | saxIzx z => exact completes_storeInstr (by decide) (by decide)
  | styZp0 z => exact completes_storeInstr (by decide) (by decide)
  | staZp0 z => exact completes_storeInstr (by decide) (by decide)
  | stxZp0 z => exact completes_storeInstr (by decide) (by decide)
  | saxZp0 z => exact completes_storeInstr (by decide) (by decide)
  | dey => exact completes_cpu (by decide) (by decide)
  | nopImm89 n => exact completes_nopInstr (by decide) (by decide)
  | txa => exact completes_cpu (by decide) (by decide)
  | xxx8b => exact completes_illegalInstr
  | styAbs w => exact completes_storeInstr (by decide) (by decide)
  | staAbs w => exact completes_storeInstr (by decide) (by decide)
  | stxAbs w => exact completes_storeInstr (by decide) (by decide)
  | saxAbs w => exact completes_storeInstr (by decide) (by decide)
  | bcc d => exact completes_branchInstr
  | staIzy z => exact completes_storeInstr (by decide) (by decide)
  | xxx92 => exact completes_illegalInstr
  | xxx93 => exact completes_illegalInstr
  | styZpx z => exact completes_storeInstr (by decide) (by decide)
  | staZpx z => exact completes_storeInstr (by decide) (by decide)
  | stxZpy z => exact completes_storeInstr (by decide) (by decide)
  | saxZpy z => exact completes_storeInstr (by decide) (by decide)
  | tya => exact completes_cpu (by decide) (by decide)
  | staAby w => exact completes_storeInstr (by decide) (by decide)
  | txs => exact completes_cpu (by decide) (by decide)
  | xxx9b => exact completes_illegalInstr
  | xxx9c => exact completes_illegalInstr
  | staAbx w => exact completes_storeInstr (by decide) (by decide)
  | xxx9e => exact completes_illegalInstr
  | xxx9f => exact completes_illegalInstr
  | ldyImm n => exact completes_readImm (fun _ _ => rfl) (by decide) (by decide)
  | ldaIzx z => exact completes_readInstr (fun _ _ => rfl) (by decide) (by decide)
  | ldxImm n => exact completes_readImm (fun _ _ => rfl) (by decide) (by decide)
  | laxIzx z => exact completes_readInstr (fun _ _ => rfl) (by decide) (by decide)
  | ldyZp0 z => exact completes_readInstr (fun _ _ => rfl) (by decide) (by decide)
  | ldaZp0 z => exact completes_readInstr (fun _ _ => rfl) (by decide) (by decide)
  | ldxZp0 z => exact completes_readInstr (fun _ _ => rfl) (by decide) (by decide)
  | laxZp0 z => exact completes_readInstr (fun _ _ => rfl) (by decide) (by decide)
  | tay => exact completes_cpu (by decide) (by decide)
  | ldaImm n => exact completes_readImm (fun _ _ => rfl) (by decide) (by decide)
  | tax => exact completes_cpu (by decide) (by decide)
  | xxxab => exact completes_illegalInstr
  | ldyAbs w => exact completes_readInstr (fun _ _ => rfl) (by decide) (by decide)
  | ldaAbs w => exact completes_readInstr (fun _ _ => rfl) (by decide) (by decide)
  | ldxAbs w => exact completes_readInstr (fun _ _ => rfl) (by decide) (by decide)
  | laxAbs w => exact completes_readInstr (fun _ _ => rfl) (by decide) (by decide)
  | bcs d => exact completes_branchInstr
  | ldaIzy z => exact completes_readInstr (fun _ _ => rfl) (by decide) (by decide)
  | xxxb2 => exact completes_illegalInstr
  | laxIzy z => exact completes_readInstr (fun _ _ => rfl) (by decide) (by decide)
  | ldyZpx z => exact completes_readInstr (fun _ _ => rfl) (by decide) (by decide)
  | ldaZpx z => exact completes_readInstr (fun _ _ => rfl) (by decide) (by decide)
  | ldxZpy z => exact completes_readInstr (fun _ _ => rfl) (by decide) (by decide)
  | laxZpy z => exact completes_readInstr (fun _ _ => rfl) (by decide) (by decide)
  | clv => exact completes_cpu (by decide) (by decide)
  | ldaAby w => exact completes_readInstr (fun _ _ => rfl) (by decide) (by decide)
  | tsx => exact completes_cpu (by decide) (by decide)
  | xxxbb => exact completes_illegalInstr
  | ldyAbx w => exact completes_readInstr (fun _ _ => rfl) (by decide) (by decide)
  | ldaAbx w => exact completes_readInstr (fun _ _ => rfl) (by decide) (by decide)
  | ldxAby w => exact completes_readInstr (fun _ _ => rfl) (by decide) (by decide)
  | laxAby w => exact completes_readInstr (fun _ _ => rfl) (by decide) (by decide)
  | cpyImm n => exact completes_readImm (fun _ _ => rfl) (by decide) (by decide)
  | cmpIzx z => exact completes_readInstr (fun _ _ => rfl) (by decide) (by decide)
  | nopImmc2 n => exact completes_nopInstr (by decide) (by decide)
  | dcpIzx z => exact completes_rmwInstr (fun _ _ => rfl) (fun _ _ => rfl) (by decide) (by decide)
  | cpyZp0 z => exact completes_readInstr (fun _ _ => rfl) (by decide) (by decide)
  | cmpZp0 z => exact completes_readInstr (fun _ _ => rfl) (by decide) (by decide)
  | decZp0 z => exact completes_rmwInstr (fun _ _ => rfl) (fun _ _ => rfl) (by decide) (by decide)
  | dcpZp0 z => exact completes_rmwInstr (fun _ _ => rfl) (fun _ _ => rfl) (by decide) (by decide)
  | iny => exact completes_cpu (by decide) (by decide)
  | cmpImm n => exact completes_readImm (fun _ _ => rfl) (by decide) (by decide)
  | dex => exact completes_cpu (by decide) (by decide)
  | xxxcb => exact completes_illegalInstr
  | cpyAbs w => exact completes_readInstr (fun _ _ => rfl) (by decide) (by decide)
  | cmpAbs w => exact completes_readInstr (fun _ _ => rfl) (by decide) (by decide)
  | decAbs w => exact completes_rmwInstr (fun _ _ => rfl) (fun _ _ => rfl) (by decide) (by decide)
  | dcpAbs w => exact completes_rmwInstr (fun _ _ => rfl) (fun _ _ => rfl) (by decide) (by decide)
  | bne d => exact completes_branchInstr
  | cmpIzy z => exact completes_readInstr (fun _ _ => rfl) (by decide) (by decide)
  | xxxd2 => exact completes_illegalInstr
  | dcpIzy z => exact completes_rmwInstr (fun _ _ => rfl) (fun _ _ => rfl) (by decide) (by decide)
  | nopZpxd4 z => exact completes_nopInstr (by decide) (by decide)
  | cmpZpx z => exact completes_readInstr (fun _ _ => rfl) (by decide) (by decide)
  | decZpx z => exact completes_rmwInstr (fun _ _ => rfl) (fun _ _ => rfl) (by decide) (by decide)
  | dcpZpx z => exact completes_rmwInstr (fun _ _ => rfl) (fun _ _ => rfl) (by decide) (by decide)
  | cld => exact completes_cpu (by decide) (by decide)
  | cmpAby w => exact completes_readInstr (fun _ _ => rfl) (by decide) (by decide)
  | nopImpda => exact completes_cpu (by decide) (by decide)
  | dcpAby w => exact completes_rmwInstr (fun _ _ => rfl) (fun _ _ => rfl) (by decide) (by decide)
  | nopAbxdc w => exact completes_nopInstr (by decide) (by decide)
  | cmpAbx w => exact completes_readInstr (fun _ _ => rfl) (by decide) (by decide)
  | decAbx w => exact completes_rmwInstr (fun _ _ => rfl) (fun _ _ => rfl) (by decide) (by decide)
  | dcpAbx w => exact completes_rmwInstr (fun _ _ => rfl) (fun _ _ => rfl) (by decide) (by decide)
  | cpxImm n => exact completes_readImm (fun _ _ => rfl) (by decide) (by decide)
  | sbcIzx z => exact completes_readInstr (fun _ _ => rfl) (by decide) (by decide)
  | nopImme2 n => exact completes_nopInstr (by decide) (by decide)
  | iscIzx z => exact completes_rmwInstr (fun _ _ => rfl) (fun _ _ => rfl) (by decide) (by decide)
  | cpxZp0 z => exact completes_readInstr (fun _ _ => rfl) (by decide) (by decide)
  | sbcZp0 z => exact completes_readInstr (fun _ _ => rfl) (by decide) (by decide)
  | incZp0 z => exact completes_rmwInstr (fun _ _ => rfl) (fun _ _ => rfl) (by decide) (by decide)
  | iscZp0 z => exact completes_rmwInstr (fun _ _ => rfl) (fun _ _ => rfl) (by decide) (by decide)
  | inx => exact completes_cpu (by decide) (by decide)
  | sbcImm n => exact completes_readImm (fun _ _ => rfl) (by decide) (by decide)
  | nop => exact completes_cpu (by decide) (by decide)
  | sbcImmEb n => exact completes_readImm (fun _ _ => rfl) (by decide) (by decide)
  | cpxAbs w => exact completes_readInstr (fun _ _ => rfl) (by decide) (by decide)
  | sbcAbs w => exact completes_readInstr (fun _ _ => rfl) (by decide) (by decide)
  | incAbs w => exact completes_rmwInstr (fun _ _ => rfl) (fun _ _ => rfl) (by decide) (by decide)
  | iscAbs w => exact completes_rmwInstr (fun _ _ => rfl) (fun _ _ => rfl) (by decide) (by decide)
  | beq d => exact completes_branchInstr
  | sbcIzy z => exact completes_readInstr (fun _ _ => rfl) (by decide) (by decide)
  | xxxf2 => exact completes_illegalInstr
  | iscIzy z => exact completes_rmwInstr (fun _ _ => rfl) (fun _ _ => rfl) (by decide) (by decide)
  | nopZpxf4 z => exact completes_nopInstr (by decide) (by decide)
  | sbcZpx z => exact completes_readInstr (fun _ _ => rfl) (by decide) (by decide)
  | incZpx z => exact completes_rmwInstr (fun _ _ => rfl) (fun _ _ => rfl) (by decide) (by decide)
  | iscZpx z => exact completes_rmwInstr (fun _ _ => rfl) (fun _ _ => rfl) (by decide) (by decide)
  | sed => exact completes_cpu (by decide) (by decide)
  | sbcAby w => exact completes_readInstr (fun _ _ => rfl) (by decide) (by decide)
  | nopImpfa => exact completes_cpu (by decide) (by decide)
  | iscAby w => exact completes_rmwInstr (fun _ _ => rfl) (fun _ _ => rfl) (by decide) (by decide)
  | nopAbxfc w => exact completes_nopInstr (by decide) (by decide)
  | sbcAbx w => exact completes_readInstr (fun _ _ => rfl) (by decide) (by decide)
  | incAbx w => exact completes_rmwInstr (fun _ _ => rfl) (fun _ _ => rfl) (by decide) (by decide)
  | iscAbx w => exact completes_rmwInstr (fun _ _ => rfl) (fun _ _ => rfl) (by decide) (by decide)

end Sys2Proof.Machine
end

