-- ==== Sys2Proof/Laws/Tick.lean ====
section
/-! SUPPORT. What a master tick can do, said once: the three kinds of tick of a running system, the end of a tick, the
PPU's dot. -/

namespace Sys2Proof.Machine

/-- The registers that no PPU dot touches, the fetch and the PPU commute only where the bus reads the PPU. -/
theorem busValue_ppuTick {b : Addr} (s : State) (h : plainAddr b = true) : busValue b (ppuTick s) = busValue b s := by
  unfold busValue plainAddr at *
  split <;> simp_all [prgRead]

/-- The fetched instruction's bytes do not depend on how many instructions were counted: the fetch keeps the count. -/
theorem fetchInstr_instructions (s : State) : (fetchInstr s).2.instructions = s.instructions := by
  unfold fetchInstr fetchOperands
  split <;> simp [fetchOpcode, readAtPc, memRead]

theorem fetchInstr_remaining (s : State) : (fetchInstr s).2.remaining = s.remaining := by
  unfold fetchInstr fetchOperands
  split <;> simp [fetchOpcode, readAtPc, memRead]

/-- The end of a tick with cycles owed, or of a halted system. -/
theorem endTick_owing {u : State} (h : u.halted = true ∨ u.remaining ≠ 0) :
    endTick u = { u with master := u.master + 1#64 } := by
  unfold endTick
  rcases h with h | h
  · simp [h]
  · cases hh : u.halted <;> simp [interruptCheck_of_owing h, hh]

/-- The three kinds of tick of a running system: no CPU clock, a clock that drains, a clock that executes. -/
theorem step_cases {s : State} (hh : s.halted = false) :
    ∃ u, step s = .next (endTick u) ∧
      ((s.master.toNat % 3 ≠ 0 ∧ u = ppuTick s) ∨
       (s.master.toNat % 3 = 0 ∧ s.remaining ≠ 0 ∧ u = countClock (ppuTick s)) ∨
       (s.master.toNat % 3 = 0 ∧ s.remaining = 0 ∧ ∃ t,
          exec (fetchInstr (ppuTick s)).1 (fetchInstr (ppuTick s)).2 = .next t ∧ Within (ppuTick s) t ∧
          ((2 ≤ t.remaining ∧ t.remaining ≤ 8 ∧ t.instructions = s.instructions + 1#64) ∨
            (t.halted = true ∧ t.remaining = 0)) ∧
          u = countClockUnlessHalted t)) := by
  by_cases hm : s.master.toNat % 3 = 0
  · by_cases hr : s.remaining = 0
    · obtain ⟨t, he, hw, hk⟩ := exec_completes (fetchInstr (ppuTick s)).1 (fetchInstr (ppuTick s)).2
      refine ⟨_, step_executing hh hm hr he, .inr (.inr ⟨hm, hr, t, he, (within_fetchInstr _).trans hw, ?_, rfl⟩)⟩
      rw [fetchInstr_instructions, fetchInstr_remaining] at hk
      simpa [hr] using hk
    · exact ⟨_, step_draining hh hm hr, .inr (.inl ⟨hm, hr, rfl⟩)⟩
  · exact ⟨_, step_off_cpu hh hm, .inl ⟨hm, rfl⟩⟩

/-- An executed instruction's tick never ends at a boundary, so nothing but the count follows it. -/
theorem endTick_executed {t : State} {n : BitVec 64}
    (h : (2 ≤ t.remaining ∧ t.remaining ≤ 8 ∧ t.instructions = n) ∨ (t.halted = true ∧ t.remaining = 0)) :
    endTick (countClockUnlessHalted t) =
      if t.halted then { t with master := t.master + 1#64 }
      else { t with remaining := t.remaining - 1, cycles := t.cycles + 1#64, master := t.master + 1#64 } := by
  cases hh : t.halted
  · have h2 : 2 ≤ t.remaining := by rcases h with h | h <;> simp_all
    simp only [countClockUnlessHalted, hh, Bool.false_eq_true, if_false]
    rw [endTick_owing (.inr (by simp [countClock]; omega))]
    simp [countClock, hh]
  · simp only [countClockUnlessHalted, hh, if_true]
    rw [endTick_owing (.inl hh), hh]

/-- One PPU dot on, with the events of the scanline it enters, from a valid position (60_exceptions.md R281). -/
theorem ppuTick_of_valid {s : State} (h : validPosition s.ppu.scanline s.ppu.dot = true) :
    ppuTick s =
      if s.ppu.dot = 340 then
        if s.ppu.scanline = 240 then
          { s with ppu := { s.ppu with scanline := 241, dot := 0, frameComplete := false
                                       status := s.ppu.status ||| 0x80#8 }
                   nmiPending := s.nmiPending || s.ppu.ctrl.getLsbD 7 }
        else if s.ppu.scanline = 260 then
          { s with ppu := { s.ppu with scanline := -1, dot := 0, frameComplete := true
                                       status := s.ppu.status &&& 0x1F#8, frameCount := s.ppu.frameCount + 1#64 } }
        else { s with ppu := { s.ppu with scanline := s.ppu.scanline + 1, dot := 0, frameComplete := false } }
      else { s with ppu := { s.ppu with dot := s.ppu.dot + 1, frameComplete := false } } := by
  simp only [validPosition, Bool.and_eq_true, decide_eq_true_eq] at h
  unfold ppuTick
  by_cases hd : s.ppu.dot = 340
  · simp only [hd, if_true]
    rw [scanlineEvent_eq]
    by_cases h1 : s.ppu.scanline = 240
    · simp [Ppu.advance, hd, h1, nextScanline, Ppu.nmiEnable]
    · by_cases h2 : s.ppu.scanline = 260
      · simp [Ppu.advance, hd, h2, nextScanline]
      · have e1 : ¬ s.ppu.scanline + 1 = 261 := by omega
        have e2 : ¬ s.ppu.scanline + 1 = 241 := by omega
        have e3 : ¬ s.ppu.scanline + 1 = -1 := by omega
        simp [Ppu.advance, hd, h1, h2, nextScanline, e1, e2, e3]
  · have : ¬ s.ppu.dot + 1 = 341 := by omega
    simp [Ppu.advance, hd, this]

/-- A dot requests an NMI exactly on the entry of scanline 241 with NMI enabled (R284). -/
theorem ppuTick_nmiPending (s : State) : (ppuTick s).nmiPending = NmiRequested s := by
  unfold ppuTick NmiRequested
  by_cases hd : s.ppu.dot = 340
  · simp only [hd, if_true]
    rw [scanlineEvent_eq]
    by_cases h1 : s.ppu.scanline = 240
    · simp [Ppu.advance, hd, h1, nextScanline, Ppu.nmiEnable]
    · have e : ¬ nextScanline s.ppu.scanline = 241 := by unfold nextScanline; split <;> omega
      simp [Ppu.advance, hd, h1, e]
  · have : ¬ s.ppu.dot + 1 = 341 := by omega
    simp [hd, this]

/-! ### Interrupt entry -/

/-- An interrupt entry through a vector in PRG ROM leaves what R261 says. -/
theorem interruptEntry_eq {v : Addr} (n : Nat) (s : State) (h0 : regionOf v = .prgRom) (h1 : regionOf (v + 1#16) = .prgRom) :
    interruptEntry v n s =
      { s with
        ram := ((s.ram.write (256 + s.sp.toNat) (hiByte s.pc)).write (256 + (s.sp - 1#8).toNat) (loByte s.pc)).write
          (256 + (s.sp - 1#8 - 1#8).toNat) (pushedByInterrupt s.p)
        sp := s.sp - 1#8 - 1#8 - 1#8
        p := putFlag .i true s.p
        pc := addrOf (prgRead (v + 1#16) s) (prgRead v s)
        remaining := n } := by
  rw [interruptEntry, takeException_eq _ _ _ h0 h1]; rfl

end Sys2Proof.Machine
end

