-- ==== Sys2Proof/Tests/Slice0.lean ====
section
/-! SUPPORT. The model's own tests. The expected results are those of spec/95_test_vectors.md (each test names its
vectors) and of the encodings of spec/30_encoding.md; then one witness for each statement that has hypotheses. A test
runs one step of a small state. -/

namespace Sys2Proof.Tests

open Sys2Proof.Machine

/-- The reset state at a boundary on a CPU tick, PC $8000, with these PRG ROM bytes from $8000. -/
def romState (bytes : List Byte) : State :=
  { State.reset with cart := { Cartridge.blank with prg := Memory.ofBytes bytes }, pc := 0x8000, remaining := 0 }

/-- The next state of an outcome. -/
def after : Out → Option State
  | .next t => some t
  | .fault _ => none
  | .refused _ => none

/-- One step of a program's first instruction, the start state set up by `f`. -/
def ran (bytes : List Byte) (f : State → State) : Option State := after (step (f (romState bytes)))

/-- What a vector of the spec lists: A, P, PC, the cycles of the instruction, RAM. -/
structure Shown where
  a : Byte
  p : Byte
  pc : Addr
  cycles : Nat
  ram : Memory
deriving DecidableEq, Repr

/-- Those after that step. -/
def shows (bytes : List Byte) (f : State → State) : Option Shown :=
  (ran bytes f).map fun t => ⟨t.a, t.p, t.pc, t.remaining + 1, t.ram⟩

/-- X, Y and SP after that step. -/
def indexes (bytes : List Byte) (f : State → State) : Option (Byte × Byte × Byte) :=
  (ran bytes f).map fun t => (t.x, t.y, t.sp)

/-- IRQ/BRK vector $9000, NMI vector $9100 and reset vector $C123. -/
def vectors (s : State) : State :=
  { s with cart := { s.cart with prg :=
      ((s.cart.prg.write 0x7FFB 0x91).write 0x7FFC 0x23).write 0x7FFD 0xC1 |>.write 0x7FFF 0x90 } }

/-- Write a list of bytes to CPU-bus addresses in order. -/
def writes : List (Addr × Byte) → State → State
  | [], s => s
  | (a, v) :: rest, s => writes rest (memWrite a v s)

/-! ### Vectors of the spec -/

/-- LD1, LD5, LD7 (page crossed), LD8 (pointer at $FF wraps to $00), LD10 (RAM mirror), LD12 (expansion reads 0). -/
theorem test_lda :
    shows [0xA9, 0x00] (id) = some ⟨0x00, 0x02, 0x8002, 2, []⟩ ∧
    shows [0xBD, 0x00, 0x10] (fun s => { s with x := 1, ram := [(0x001, 0x07)] }) = some ⟨0x07, 0x00, 0x8003, 4, [(0x001, 0x07)]⟩ ∧
    shows [0xB1, 0x10] (fun s => { s with y := 1, ram := [(0x010, 0xFF), (0x011, 0x02), (0x300, 0x99)] }) = some ⟨0x99, 0x80, 0x8002, 6, [(0x010, 0xFF), (0x011, 0x02), (0x300, 0x99)]⟩ ∧
    shows [0xA1, 0xFE] (fun s => { s with x := 1, ram := [(0x000, 0x02), (0x0FF, 0x34), (0x234, 0x5A)] }) = some ⟨0x5A, 0x00, 0x8002, 6, [(0x000, 0x02), (0x0FF, 0x34), (0x234, 0x5A)]⟩ ∧
    shows [0xAD, 0x00, 0x08] (fun s => { s with ram := [(0x000, 0x5C)] }) = some ⟨0x5C, 0x00, 0x8003, 4, [(0x000, 0x5C)]⟩ ∧
    shows [0xAD, 0x00, 0x60] (id) = some ⟨0x00, 0x02, 0x8003, 4, []⟩ := by decide

/-- LD2, LD4 (page crossed, $1100 mirrors $0100), LD9, LD13 (reads its own opcode). -/
theorem test_lda_crossing :
    shows [0xA9, 0x80] (id) = some ⟨0x80, 0x80, 0x8002, 2, []⟩ ∧
    shows [0xBD, 0xFF, 0x10] (fun s => { s with x := 1, ram := [(0x100, 0x07)] }) = some ⟨0x07, 0x00, 0x8003, 5, [(0x100, 0x07)]⟩ ∧
    shows [0xB1, 0xFF] (fun s => { s with ram := [(0x000, 0x03), (0x300, 0x11)] }) = some ⟨0x11, 0x00, 0x8002, 5, [(0x000, 0x03), (0x300, 0x11)]⟩ ∧
    shows [0xAD, 0x00, 0x80] (id) = some ⟨0xAD, 0x80, 0x8003, 4, []⟩ := by decide

/-- LD14: with one PRG bank $C000 is PRG[0]. -/
theorem test_lda_one_bank :
    shows [0xAD, 0x00, 0xC0] (fun s => { s with cart := { s.cart with prgBanks := .one } }) = some ⟨0xAD, 0x80, 0x8003, 4, []⟩ := by decide

/-- LD3: the zero-page index wraps. -/
theorem test_ldx :
    indexes [0xB6, 0xFF] (fun s => { s with y := 2, ram := [(0x001, 0x42)] }) = some (0x42, 0x02, 0xFD) ∧
    shows [0xB6, 0xFF] (fun s => { s with y := 2, ram := [(0x001, 0x42)] }) = some ⟨0x00, 0x00, 0x8002, 4, [(0x001, 0x42)]⟩ := by decide

/-- LD6 (no extra cycle), LD11 (mirror). -/
theorem test_sta_stx :
    shows [0x9D, 0xFF, 0x10] (fun s => { s with x := 1, a := 0x33 }) = some ⟨0x33, 0x00, 0x8003, 5, [(0x100, 0x33)]⟩ ∧
    shows [0x8E, 0x00, 0x18] (fun s => { s with x := 0xE1 }) = some ⟨0x00, 0x00, 0x8003, 4, [(0x000, 0xE1)]⟩ := by decide

/-- TR1 to TR4. -/
theorem test_transfers :
    indexes [0xAA] (fun s => { s with x := 9 }) = some (0x00, 0x00, 0xFD) ∧
    shows [0xAA] (fun s => { s with x := 9 }) = some ⟨0x00, 0x02, 0x8001, 2, []⟩ ∧
    indexes [0xBA] (id) = some (0xFD, 0x00, 0xFD) ∧
    indexes [0x9A] (fun s => { s with p := 2 }) = some (0x00, 0x00, 0x00) ∧
    shows [0x9A] (fun s => { s with p := 2 }) = some ⟨0x00, 0x02, 0x8001, 2, []⟩ ∧
    shows [0x98] (fun s => { s with y := 0x80 }) = some ⟨0x80, 0x80, 0x8001, 2, []⟩ := by decide

/-- ST1 (SP wraps), ST2 (B and U forced), ST3, ST4 (B and U cleared), ST5 (SP wraps). -/
theorem test_stack :
    shows [0x48] (fun s => { s with a := 0x77, sp := 0 }) = some ⟨0x77, 0x00, 0x8001, 3, [(0x100, 0x77)]⟩ ∧
    indexes [0x48] (fun s => { s with a := 0x77, sp := 0 }) = some (0x00, 0x00, 0xFF) ∧
    shows [0x08] (id) = some ⟨0x00, 0x00, 0x8001, 3, [(0x1FD, 0x30)]⟩ ∧
    shows [0x68] (fun s => { s with ram := [(0x1FE, 0x80)] }) = some ⟨0x80, 0x80, 0x8001, 4, [(0x1FE, 0x80)]⟩ ∧
    shows [0x28] (fun s => { s with ram := [(0x1FE, 0xFF)] }) = some ⟨0x00, 0xCF, 0x8001, 4, [(0x1FE, 0xFF)]⟩ ∧
    shows [0x68] (fun s => { s with sp := 0xFF }) = some ⟨0x00, 0x02, 0x8001, 4, []⟩ ∧
    indexes [0x68] (fun s => { s with sp := 0xFF }) = some (0x00, 0x00, 0x00) := by decide

/-- AD1 to AD6 and DM1 (D is not read). -/
theorem test_adc :
    shows [0x69, 0x10] (fun s => { s with a := 0x50, p := 0x00 }) = some ⟨0x60, 0x00, 0x8002, 2, []⟩ ∧
    shows [0x69, 0x50] (fun s => { s with a := 0x50, p := 0x00 }) = some ⟨0xA0, 0xC0, 0x8002, 2, []⟩ ∧
    shows [0x69, 0x90] (fun s => { s with a := 0xD0, p := 0x00 }) = some ⟨0x60, 0x41, 0x8002, 2, []⟩ ∧
    shows [0x69, 0x01] (fun s => { s with a := 0xFF, p := 0x00 }) = some ⟨0x00, 0x03, 0x8002, 2, []⟩ ∧
    shows [0x69, 0x00] (fun s => { s with a := 0xFF, p := 0x01 }) = some ⟨0x00, 0x03, 0x8002, 2, []⟩ ∧
    shows [0x69, 0x00] (fun s => { s with a := 0x7F, p := 0x01 }) = some ⟨0x80, 0xC0, 0x8002, 2, []⟩ ∧
    shows [0x69, 0x01] (fun s => { s with a := 0x09, p := 0x08 }) = some ⟨0x0A, 0x08, 0x8002, 2, []⟩ := by decide

/-- SB1 to SB5; the byte $EB in SB6. -/
theorem test_sbc :
    shows [0xE9, 0xF0] (fun s => { s with a := 0x50, p := 0x01 }) = some ⟨0x60, 0x00, 0x8002, 2, []⟩ ∧
    shows [0xE9, 0xB0] (fun s => { s with a := 0x50, p := 0x01 }) = some ⟨0xA0, 0xC0, 0x8002, 2, []⟩ ∧
    shows [0xE9, 0x01] (fun s => { s with a := 0x00, p := 0x01 }) = some ⟨0xFF, 0x80, 0x8002, 2, []⟩ ∧
    shows [0xE9, 0x01] (fun s => { s with a := 0x80, p := 0x01 }) = some ⟨0x7F, 0x41, 0x8002, 2, []⟩ ∧
    shows [0xE9, 0x03] (fun s => { s with a := 0x05, p := 0x00 }) = some ⟨0x01, 0x01, 0x8002, 2, []⟩ ∧
    shows [0xEB, 0x01] (fun s => { s with a := 0x10, p := 0x01 }) = some ⟨0x0F, 0x01, 0x8002, 2, []⟩ := by decide

/-- LG1 to LG3. -/
theorem test_logic :
    shows [0x29, 0x0F] (fun s => { s with a := 0xF0, p := 0x00 }) = some ⟨0x00, 0x02, 0x8002, 2, []⟩ ∧
    shows [0x09, 0x80] (fun s => { s with a := 0x01, p := 0x00 }) = some ⟨0x81, 0x80, 0x8002, 2, []⟩ ∧
    shows [0x49, 0xFF] (fun s => { s with a := 0xFF, p := 0x00 }) = some ⟨0x00, 0x02, 0x8002, 2, []⟩ := by decide

/-- BT1, BT2; BT3 reads PPUSTATUS, which clears VBL and w. -/
theorem test_bit :
    shows [0x24, 0x10] (fun s => { s with a := 1, ram := [(0x010, 0xC0)] }) = some ⟨0x01, 0xC2, 0x8002, 3, [(0x010, 0xC0)]⟩ ∧
    shows [0x24, 0x10] (fun s => { s with a := 1, ram := [(0x010, 0x3F)] }) = some ⟨0x01, 0x00, 0x8002, 3, [(0x010, 0x3F)]⟩ ∧
    (ran [0x2C, 0x02, 0x20] fun s => { s with ppu := { s.ppu with status := 0x80, w := true } }).map (fun t => (t.p, t.ppu.status, t.ppu.w)) = some (0x82, 0x00, false) := by decide

/-- CP1 to CP6. -/
theorem test_compare :
    shows [0xC9, 0x40] (fun s => { s with a := 0x40, p := 0x00 }) = some ⟨0x40, 0x03, 0x8002, 2, []⟩ ∧
    shows [0xC9, 0x41] (fun s => { s with a := 0x40, p := 0x00 }) = some ⟨0x40, 0x80, 0x8002, 2, []⟩ ∧
    shows [0xC9, 0xC0] (fun s => { s with a := 0x40, p := 0x00 }) = some ⟨0x40, 0x80, 0x8002, 2, []⟩ ∧
    shows [0xC9, 0x01] (fun s => { s with a := 0x80, p := 0x00 }) = some ⟨0x80, 0x01, 0x8002, 2, []⟩ ∧
    shows [0xE0, 0x08] (fun s => { s with x := 8 }) = some ⟨0x00, 0x03, 0x8002, 2, []⟩ ∧
    shows [0xC0, 0x09] (fun s => { s with y := 8 }) = some ⟨0x00, 0x80, 0x8002, 2, []⟩ := by decide

/-- ID1, ID2, ID3, ID4, ID5. -/
theorem test_inc_dec :
    shows [0xE6, 0x10] (fun s => { s with ram := [(0x010, 0xFF)] }) = some ⟨0x00, 0x02, 0x8002, 5, []⟩ ∧
    shows [0xC6, 0x10] (id) = some ⟨0x00, 0x80, 0x8002, 5, [(0x010, 0xFF)]⟩ ∧
    indexes [0xE8] (fun s => { s with x := 0xFF }) = some (0x00, 0x00, 0xFD) ∧
    shows [0xE8] (fun s => { s with x := 0xFF }) = some ⟨0x00, 0x02, 0x8001, 2, []⟩ ∧
    indexes [0x88] (id) = some (0x00, 0xFF, 0xFD) ∧
    shows [0x88] (id) = some ⟨0x00, 0x80, 0x8001, 2, []⟩ ∧
    shows [0xFE, 0xFF, 0x10] (fun s => { s with x := 1, ram := [(0x100, 0x7F)] }) = some ⟨0x00, 0x80, 0x8003, 7, [(0x100, 0x80)]⟩ := by decide

/-- ID6: PRG unchanged, the sticky bit set, N from $EF. -/
theorem test_inc_rom :
    (ran [0xEE, 0x00, 0x80] id).any (fun t => t.p == 0x80 && t.remaining == 5 && t.romWriteSeen == true &&
        t.cart.prg.read 0 == 0xEE && t.halted == false) = true := by decide

/-- SH1 to SH8. -/
theorem test_shifts :
    shows [0x0A] (fun s => { s with a := 0x80, p := 0x00 }) = some ⟨0x00, 0x03, 0x8001, 2, []⟩ ∧
    shows [0x4A] (fun s => { s with a := 0x01, p := 0x00 }) = some ⟨0x00, 0x03, 0x8001, 2, []⟩ ∧
    shows [0x2A] (fun s => { s with a := 0x80, p := 0x00 }) = some ⟨0x00, 0x03, 0x8001, 2, []⟩ ∧
    shows [0x2A] (fun s => { s with a := 0x00, p := 0x01 }) = some ⟨0x01, 0x00, 0x8001, 2, []⟩ ∧
    shows [0x6A] (fun s => { s with a := 0x01, p := 0x01 }) = some ⟨0x80, 0x81, 0x8001, 2, []⟩ ∧
    shows [0x06, 0x10] (fun s => { s with ram := [(0x010, 0x41)] }) = some ⟨0x00, 0x80, 0x8002, 5, [(0x010, 0x82)]⟩ ∧
    shows [0x7E, 0x00, 0x02] (fun s => { s with p := 1, ram := [(0x200, 0x02)] }) = some ⟨0x00, 0x80, 0x8003, 7, [(0x200, 0x81)]⟩ ∧
    shows [0x4A] (fun s => { s with a := 0xFF, p := 0x00 }) = some ⟨0x7F, 0x01, 0x8001, 2, []⟩ := by decide

/-- BR1, BR2, BR4, BR5, BR7, BR8. -/
theorem test_branches :
    shows [0xD0, 0x05] (fun s => { s with p := 0x02 }) = some ⟨0x00, 0x02, 0x8002, 2, []⟩ ∧
    shows [0xD0, 0x05] (fun s => { s with p := 0x00 }) = some ⟨0x00, 0x00, 0x8007, 3, []⟩ ∧
    shows [0xD0, 0xFB] (fun s => { s with p := 0x00 }) = some ⟨0x00, 0x00, 0x7FFD, 4, []⟩ ∧
    shows [0x90, 0xFE] (fun s => { s with p := 0x00 }) = some ⟨0x00, 0x00, 0x8000, 3, []⟩ ∧
    shows [0x90, 0x10] (fun s => { s with p := 0x00 }) = some ⟨0x00, 0x00, 0x8012, 3, []⟩ ∧
    shows [0xB0, 0x10] (fun s => { s with p := 0x01 }) = some ⟨0x00, 0x01, 0x8012, 3, []⟩ ∧
    shows [0x30, 0x10] (fun s => { s with p := 0x80 }) = some ⟨0x00, 0x80, 0x8012, 3, []⟩ ∧
    shows [0x50, 0x10] (fun s => { s with p := 0x00 }) = some ⟨0x00, 0x00, 0x8012, 3, []⟩ ∧
    shows [0x70, 0x10] (fun s => { s with p := 0x40 }) = some ⟨0x00, 0x40, 0x8012, 3, []⟩ ∧
    shows [0xF0, 0x10] (fun s => { s with p := 0x00 }) = some ⟨0x00, 0x00, 0x8002, 2, []⟩ ∧
    shows [0x10, 0x10] (fun s => { s with p := 0x80 }) = some ⟨0x00, 0x80, 0x8002, 2, []⟩ := by decide

/-- BR3 (target in the next page) and BR6 (the next instruction is the target, D14). -/
theorem test_branches_at_page_ends :
    (exec (.beq 5) { State.reset with pc := 0x80FF, p := 2 } |> after).map (fun t =>
        (t.pc, t.remaining)) = some (0x8104, 4) ∧
    (exec (.bpl 0) { State.reset with pc := 0x8100 } |> after).map (fun t =>
        (t.pc, t.remaining)) = some (0x8100, 3) := by decide

/-- FL1 to FL8. -/
theorem test_flags :
    shows [0x18] (fun s => { s with p := 0xFF }) = some ⟨0x00, 0xFE, 0x8001, 2, []⟩ ∧
    shows [0x38] (fun s => { s with p := 0x00 }) = some ⟨0x00, 0x01, 0x8001, 2, []⟩ ∧
    shows [0x58] (fun s => { s with p := 0x04 }) = some ⟨0x00, 0x00, 0x8001, 2, []⟩ ∧
    shows [0x78] (fun s => { s with p := 0x00 }) = some ⟨0x00, 0x04, 0x8001, 2, []⟩ ∧
    shows [0xB8] (fun s => { s with p := 0x40 }) = some ⟨0x00, 0x00, 0x8001, 2, []⟩ ∧
    shows [0xD8] (fun s => { s with p := 0x08 }) = some ⟨0x00, 0x00, 0x8001, 2, []⟩ ∧
    shows [0xF8] (fun s => { s with p := 0x00 }) = some ⟨0x00, 0x08, 0x8001, 2, []⟩ ∧
    shows [0xEA] (fun s => { s with p := 0xA5 }) = some ⟨0x00, 0xA5, 0x8001, 2, []⟩ := by decide

/-- JA1; JI1: the pointer low byte $FF wraps within its page. -/
theorem test_jumps :
    shows [0x4C, 0x34, 0x12] (id) = some ⟨0x00, 0x00, 0x1234, 3, []⟩ ∧
    shows [0x6C, 0xFF, 0x10] (fun s => { s with ram := [(0x000, 0x12), (0x0FF, 0x34), (0x100, 0x56)] }) = some ⟨0x00, 0x00, 0x1234, 5, [(0x000, 0x12), (0x0FF, 0x34), (0x100, 0x56)]⟩ := by decide

/-- JS1, RS1, RS2 (the return address wraps). -/
theorem test_calls :
    shows [0x20, 0x00, 0x90] (id) = some ⟨0x00, 0x00, 0x9000, 6, [(0x1FC, 0x02), (0x1FD, 0x80)]⟩ ∧
    shows [0x60] (fun s => { s with sp := 0xFB, ram := [(0x1FC, 0x02), (0x1FD, 0x80)] }) = some ⟨0x00, 0x00, 0x8003, 6, [(0x1FC, 0x02), (0x1FD, 0x80)]⟩ ∧
    shows [0x60] (fun s => { s with sp := 0xFB, ram := [(0x1FC, 0xFF), (0x1FD, 0xFF)] }) = some ⟨0x00, 0x00, 0x0000, 6, [(0x1FC, 0xFF), (0x1FD, 0xFF)]⟩ := by decide

/-- RT1. -/
theorem test_rti :
    shows [0x40] (fun s => { s with sp := 0xFA, ram := [(0x1FB, 0xB1), (0x1FC, 0x34), (0x1FD, 0x12)] }) = some ⟨0x00, 0x81, 0x1234, 6, [(0x1FB, 0xB1), (0x1FC, 0x34), (0x1FD, 0x12)]⟩ := by decide

/-- BK1, BK2 (taken with I set). -/
theorem test_brk :
    shows [0x00] (fun s => vectors { s with p := 1 }) = some ⟨0x00, 0x05, 0x9000, 7, [(0x1FB, 0x31), (0x1FC, 0x02), (0x1FD, 0x80)]⟩ ∧
    shows [0x00] (fun s => vectors { s with p := 4 }) = some ⟨0x00, 0x04, 0x9000, 7, [(0x1FB, 0x34), (0x1FC, 0x02), (0x1FD, 0x80)]⟩ := by decide

/-- UN1, UN2 (page crossed), UN3. -/
theorem test_lax_sax :
    shows [0xA7, 0x10] (fun s => { s with ram := [(0x010, 0x80)] }) = some ⟨0x80, 0x80, 0x8002, 3, [(0x010, 0x80)]⟩ ∧
    indexes [0xA7, 0x10] (fun s => { s with ram := [(0x010, 0x80)] }) = some (0x80, 0x00, 0xFD) ∧
    shows [0xB3, 0x10] (fun s => { s with y := 1, ram := [(0x010, 0xFF), (0x011, 0x02)] }) = some ⟨0x00, 0x02, 0x8002, 6, [(0x010, 0xFF), (0x011, 0x02)]⟩ ∧
    shows [0x87, 0x10] (fun s => { s with a := 0xF0, x := 0x3C, p := 0x82 }) = some ⟨0xF0, 0x82, 0x8002, 3, [(0x010, 0x30)]⟩ := by decide

/-- UN4, UN5, UN6 (no extra cycle), UN7. -/
theorem test_dcp_isc :
    shows [0xC7, 0x10] (fun s => { s with a := 0xFF }) = some ⟨0xFF, 0x03, 0x8002, 5, [(0x010, 0xFF)]⟩ ∧
    shows [0xC7, 0x10] (fun s => { s with a := 0x40, ram := [(0x010, 0x41)] }) = some ⟨0x40, 0x03, 0x8002, 5, [(0x010, 0x40)]⟩ ∧
    shows [0xDF, 0xFF, 0x10] (fun s => { s with x := 1, ram := [(0x100, 0x01)] }) = some ⟨0x00, 0x03, 0x8003, 7, []⟩ ∧
    shows [0xE7, 0x10] (fun s => { s with a := 5, p := 1, ram := [(0x010, 0xFF)] }) = some ⟨0x05, 0x01, 0x8002, 5, []⟩ := by decide

/-- UN8 to UN11. -/
theorem test_slo_rla_sre_rra :
    shows [0x07, 0x10] (fun s => { s with a := 2, ram := [(0x010, 0x81)] }) = some ⟨0x02, 0x01, 0x8002, 5, [(0x010, 0x02)]⟩ ∧
    shows [0x27, 0x10] (fun s => { s with a := 0xFF, p := 1, ram := [(0x010, 0x81)] }) = some ⟨0x03, 0x01, 0x8002, 5, [(0x010, 0x03)]⟩ ∧
    shows [0x47, 0x10] (fun s => { s with a := 1, ram := [(0x010, 0x03)] }) = some ⟨0x00, 0x03, 0x8002, 5, [(0x010, 0x01)]⟩ ∧
    shows [0x67, 0x10] (fun s => { s with a := 0x10, p := 1, ram := [(0x010, 0x02)] }) = some ⟨0x91, 0x80, 0x8002, 5, [(0x010, 0x81)]⟩ := by decide

/-- UN12 to UN15, UN17 (page crossed), UN18. -/
theorem test_nops :
    shows [0x1A] (id) = some ⟨0x00, 0x00, 0x8001, 2, []⟩ ∧
    shows [0x80, 0x12] (id) = some ⟨0x00, 0x00, 0x8002, 2, []⟩ ∧
    shows [0x04, 0x12] (id) = some ⟨0x00, 0x00, 0x8002, 3, []⟩ ∧
    shows [0x14, 0x10] (id) = some ⟨0x00, 0x00, 0x8002, 4, []⟩ ∧
    shows [0x1C, 0xFF, 0x10] (fun s => { s with x := 1 }) = some ⟨0x00, 0x00, 0x8003, 5, []⟩ ∧
    shows [0x1C, 0x00, 0x10] (fun s => { s with x := 1 }) = some ⟨0x00, 0x00, 0x8003, 4, []⟩ := by decide

/-- UN16, and the same at $2002, whose read would clear VBL. -/
theorem test_nop_reads_nothing :
    (ran [0x0C, 0x00, 0x20] fun s => { s with ppu := { s.ppu with status := 0x80 } }).map (fun t =>
        (t.ppu.status, t.pc, t.remaining)) = some (0x80, 0x8003, 3) ∧
    (ran [0x0C, 0x02, 0x20] fun s => { s with ppu := { s.ppu with status := 0x80 } }).map (fun t =>
        t.ppu.status) = some 0x80 := by decide

/-- IL1, IL2 (no operand fetched): halted, the fault recorded, the clock not counted. -/
theorem test_illegal_halt :
    (ran [0x02] id).any (fun t => t.halted == true && t.fault == some (.illegalOpcode 0x8000 0x02) &&
        t.pc == 0x8001 && t.remaining == 0 && t.cycles == 0 && t.instructions == 0) = true ∧
    (ran [0x9E, 0x00, 0x00] id).map (fun t =>
        (t.halted, t.fault, t.pc)) = some (true, some (.illegalOpcode 0x8000 0x9E), 0x8001) := by decide

/-- The second step of IL4: policy nop. -/
theorem test_illegal_nop :
    (ran [0x02, 0xEA] fun s => { s with params := { s.params with illegalOpcode := .nop } }).any (fun t =>
        t.halted == false && t.fault == some (.illegalOpcode 0x8000 0x02) && t.pc == 0x8001 && t.remaining == 1 &&
        t.cycles == 1 && t.instructions == 1) = true := by decide

/-- RW2: policy fault, the clock of the store is not counted. RW1: policy ignore. -/
theorem test_rom_write :
    (ran [0x8D, 0x00, 0x80] fun s => { s with a := 0x55, params := { s.params with romWrite := .fault } }).any (fun t => t.halted == true && t.fault == some (.romWrite .cpu 0x8000 0x55) && t.pc == 0x8003 && t.remaining == 4 && t.cycles == 0 && t.instructions == 1 && t.master == 1) = true ∧
    (ran [0x8D, 0x00, 0x80] fun s => { s with a := 0x55 }).any (fun t => t.halted == false && t.fault == none &&
        t.romWriteSeen == true && t.cart.prg.read 0 == 0x8D) = true := by decide

/-- RW3, RW4: v steps after a refused PPU write. -/
theorem test_rom_write_chr :
    (fun t : State => (t.cart.chr, t.romWriteSeen, t.ppu.v)) (writes [(0x2006, 0x00), (0x2006, 0x10), (0x2007, 0x99)] State.reset) = ([], true, 0x0011) ∧
    (fun t : State => (t.halted, t.fault, t.ppu.v)) (writes [(0x2006, 0x00), (0x2006, 0x10), (0x2007, 0x99)] { State.reset with params := { State.reset.params with romWrite := .fault } }) = (true, some (.romWrite .ppu 0x0010 0x99), 0x0011) := by decide

/-- IQ1: at the boundary after the reset count the line is taken; IQ3: not with I set. -/
theorem test_irq_entry :
    (after (step (vectors { romState [] with remaining := 1, irqLine := true }))).any (fun t =>
        t.ram == [(0x1FB, 0x20), (0x1FD, 0x80)] && t.p == 0x04 && t.sp == 0xFA && t.pc == 0x9000 &&
        t.remaining == 7) = true ∧
    (after (step (vectors { romState [] with remaining := 1, irqLine := true, p := 4 }))).any (fun t =>
        t.ram == [] && t.p == 0x04 && t.sp == 0xFD && t.pc == 0x8000 && t.remaining == 0) = true := by decide

/-- NM1: VBL, the request and the entry in one tick, the pushes $80 $05 $A0; NM2: the NMI before the IRQ. -/
theorem test_nmi_entry :
    (after (step (vectors { romState [] with pc := 0x8005, p := 0x80, remaining := 1, irqLine := true, ppu := { State.reset.ppu with scanline := 240, dot := 340, ctrl := 0x80 } }))).any (fun t => t.ram == [(0x1FB, 0xA0), (0x1FC, 0x05), (0x1FD, 0x80)] && t.p == 0x84 && t.pc == 0x9100 && t.remaining == 8 && t.nmiPending == false && t.ppu.status == 0x80 && t.ppu.scanline == 241) = true := by decide

/-- S3 steps 1 to 4, PP5, PP6. -/
theorem test_palette_alias :
    (fun t : State => (t.pal, t.ppu.v)) (writes [(0x2006, 0x3F), (0x2006, 0x10), (0x2007, 0x2A)] State.reset) = ([(0, 0x2A)], 0x3F11) ∧
    (fun r : Byte × State => (r.1, r.2.ppu.buffer, r.2.ppu.v)) (memRead 0x2007 (writes [(0x2006, 0x3F), (0x2006, 0x00)] { State.reset with pal := [(0, 0x2A)] })) = (0x2A, 0x2A, 0x3F01) ∧
    (memRead 0x2007 (writes [(0x2006, 0x3F), (0x2006, 0x20)] { State.reset with pal := [(0, 0x2A)] })).1 = 0x2A ∧
    (memRead 0x2007 (writes [(0x2006, 0x3F), (0x2006, 0x04), (0x2007, 0x11), (0x2006, 0x3F), (0x2006, 0x14)] State.reset)).1 = 0x11 := by decide

/-- PP1, PP2, PP4, PP10, PP11, PP13, S4. -/
theorem test_ppu_registers :
    (fun r : Byte × State => (r.1, (memRead 0x2002 r.2).1, r.2.ppu.status)) (memRead 0x2002 { State.reset with ppu := { State.reset.ppu with status := 0x80, buffer := 0x5F } }) = (0x9F, 0x1F, 0x00) ∧
    (fun t : State => (t.ppu.t, t.ppu.v)) (writes [(0x2006, 0x7F), (0x2006, 0xFF)] State.reset) = (0x3FFF, 0x3FFF) ∧
    (fun t : State => (t.vram, t.ppu.v)) (writes [(0x2000, 0x04), (0x2006, 0x20), (0x2006, 0x00), (0x2007, 0xAA), (0x2007, 0xBB)] State.reset) = ([(0x000, 0xAA), (0x020, 0xBB)], 0x2040) ∧
    (fun t : State => (t.ppu.t, t.ppu.x, t.ppu.w)) (writes [(0x2000, 0x02), (0x2005, 0x7D), (0x2005, 0x5E)] State.reset) = (0x696F, 5, false) ∧
    (fun t : State => (t.ppu.t, t.ppu.v)) (writes [(0x2006, 0x3D), (0x2006, 0xF0)] { State.reset with ppu := { State.reset.ppu with t := 0x696F } }) = (0x3DF0, 0x3DF0) ∧
    (writes [(0x2006, 0x21)] (memRead 0x2002 (writes [(0x2005, 0x01)] State.reset)).2).ppu.t &&& 0x7F00 = 0x2100 := by decide

/-- PP3: the first read is stale; PP8, PP9: nametable mirroring. -/
theorem test_ppu_read_buffer :
    (readAgain 3 0x2007 (writes [(0x2006, 0x21), (0x2006, 0x08)] { State.reset with vram := [(0x108, 0x55), (0x109, 0x66)] })) = [0x00, 0x55, 0x66] ∧
    ppuRead 0x2508 { State.reset with vram := [(0x108, 0x55)] } = 0x55 ∧ ppuRead 0x2908 { State.reset with vram := [(0x108, 0x55)] } = 0x00 ∧
    (fun t : State => (ppuRead 0x2805 t, ppuRead 0x2405 t)) (ppuWrite 0x2005 0x77 { State.reset with cart := { Cartridge.blank with mirror := .vertical } }) = (0x77, 0x00) := by decide

/-- PP12: each reads 0 and changes nothing. -/
theorem test_stub_reads :
    ([0x2000, 0x2004, 0x3FFE, 0x4000, 0x4018, 0x6000] : List Addr).all (fun a => decide (memRead a State.reset = (0x00, State.reset))) = true := by decide

/-- TD1. -/
theorem test_tile_decoder :
    (List.range 8).map (fun x => tilePixel 0x0000 1 x 0 { State.reset with cart := { Cartridge.blank with chr := [(0x10, 0x41), (0x18, 0x01)] } }) = [0, 1, 0, 0, 0, 0, 0, 3] := by decide

/-- RE1, RE5. -/
theorem test_system_reset :
    (fun t : State => (t.pc, t.sp, t.p, t.remaining, t.ram)) (systemReset (vectors { romState [] with a := 1, p := 0xFF, ram := [(0x300, 0x12)] })) = (0xC123, 0xFD, 0x00, 7, [(0x300, 0x12)]) := by decide

/-- CT1 (S6 too), CT2. -/
theorem test_controllers :
    (fun t : State => (readAgain 10 0x4016 t, readAgain 9 0x4017 t)) (memWrite 0x4016 0x01 { State.reset with ctl0 := ⟨0x09, 0⟩, ctl1 := ⟨0x80, 0⟩ }) = ([1, 0, 0, 1, 0, 0, 0, 0, 0, 0], [0, 0, 0, 0, 0, 0, 0, 1, 0]) ∧
    memWrite 0x4017 0x00 State.reset = State.reset ∧
    after (setButton 0 0x08 true { State.reset with ctl0 := ⟨0x01, 0⟩ }) = some { State.reset with ctl0 := ⟨0x09, 0⟩ } := by decide

/-- RE3: the tick that enters scanline -1. -/
theorem test_frame_pulse :
    (after (step { State.reset with ppu := { State.reset.ppu with scanline := 260, dot := 340, status := 0x80 } })).any (fun t => t.ppu.scanline == -1 && t.ppu.dot == 0 && t.ppu.frameCount == 1 && t.ppu.frameComplete == true && t.ppu.status == 0x00) = true := by decide

/-! ### Well-formedness, decoding and encoding -/

/-- A branch displacement outside -128..127 is no instruction, in each of the eight branches; the two ends are. -/
theorem test_ill_formed_displacements :
    (∀ d ∈ ([-129, 128, 1000] : List Int), ∀ i ∈ [Instr.bpl d, .bmi d, .bvc d, .bvs d, .bcc d, .bcs d, .bne d, .beq d],
      ¬ i.WellFormed) ∧
    (∀ d ∈ ([-128, 0, 127] : List Int), ∀ i ∈ [Instr.bpl d, .bmi d, .bvc d, .bvs d, .bcc d, .bcs d, .bne d, .beq d],
      i.WellFormed) := by decide

/-- Loads and stores, from 30_encoding.md R111 and R114. -/
theorem test_words_load_store :
    decode [0b10101001, 0x80] = .instr (.ldaImm 0x80) [] ∧ decode [0b10100110, 0x10] = .instr (.ldxZp0 0x10) [] ∧
    decode [0b10111100, 0xFF, 0x10] = .instr (.ldyAbx 0x10FF) [] ∧ decode [0b10001101, 0x01, 0x00] = .instr (.staAbs 0x0001) [] ∧
    decode [0b10010110, 0x10] = .instr (.stxZpy 0x10) [] ∧ decode [0b10010100, 0x10] = .instr (.styZpx 0x10) [] := by decide

/-- Transfers and the stack. -/
theorem test_words_transfer_stack :
    decode [0b10101010] = .instr .tax [] ∧ decode [0b10111010] = .instr .tsx [] ∧ decode [0b10011010] = .instr .txs [] ∧
    decode [0b01001000] = .instr .pha [] ∧ decode [0b00101000] = .instr .plp [] := by decide

/-- Arithmetic and logic. -/
theorem test_words_arithmetic :
    decode [0b01101001, 0x50] = .instr (.adcImm 0x50) [] ∧ decode [0b11110001, 0x10] = .instr (.sbcIzy 0x10) [] ∧
    decode [0b00101101, 0x00, 0x00] = .instr (.andAbs 0x0000) [] ∧ decode [0b00000001, 0x10] = .instr (.oraIzx 0x10) [] ∧
    decode [0b01011001, 0x34, 0x12] = .instr (.eorAby 0x1234) [] ∧ decode [0b00100100, 0x10] = .instr (.bitZp0 0x10) [] ∧
    decode [0b11010101, 0x10] = .instr (.cmpZpx 0x10) [] ∧ decode [0b11100000, 0x08] = .instr (.cpxImm 0x08) [] := by decide

/-- Increments, decrements, shifts, rotates. -/
theorem test_words_rewrite :
    decode [0b11111110, 0xFF, 0x10] = .instr (.incAbx 0x10FF) [] ∧ decode [0b11000110, 0x10] = .instr (.decZp0 0x10) [] ∧
    decode [0b10001000] = .instr .dey [] ∧ decode [0b00001010] = .instr .aslAcc [] ∧ decode [0b01010110, 0x10] = .instr (.lsrZpx 0x10) [] ∧
    decode [0b00101110, 0x34, 0x12] = .instr (.rolAbs 0x1234) [] ∧ decode [0b01111110, 0x00, 0x02] = .instr (.rorAbx 0x0200) [] := by
  decide

/-- Control flow and flags: JMP $8019, JMP ($10FF), BNE -4, BEQ +8. -/
theorem test_words_control :
    decode [0b01001100, 0x19, 0x80] = .instr (.jmpAbs 0x8019) [] ∧ decode [0b01101100, 0xFF, 0x10] = .instr (.jmpInd 0x10FF) [] ∧
    decode [0b00100000, 0x10, 0x80] = .instr (.jsr 0x8010) [] ∧ decode [0b01000000] = .instr .rti [] ∧
    decode [0b00000000, 0xEA] = .instr .brk [0xEA] ∧ decode [0b11010000, 0xFC] = .instr (.bne (-4)) [] ∧
    decode [0b11110000, 0x08] = .instr (.beq 8) [] ∧ decode [0b01111000] = .instr .sei [] ∧ decode [0b10111000] = .instr .clv [] := by
  decide

/-- Unofficial and illegal bytes. -/
theorem test_words_unofficial :
    decode [0b10110011, 0x10] = .instr (.laxIzy 0x10) [] ∧ decode [0b10010111, 0x10] = .instr (.saxZpy 0x10) [] ∧
    decode [0b11011111, 0xFF, 0x10] = .instr (.dcpAbx 0x10FF) [] ∧ decode [0b11100111, 0x10] = .instr (.iscZp0 0x10) [] ∧
    decode [0b00000111, 0x10] = .instr (.sloZp0 0x10) [] ∧ decode [0b00111011, 0x34, 0x12] = .instr (.rlaAby 0x1234) [] ∧
    decode [0b01000011, 0x10] = .instr (.sreIzx 0x10) [] ∧ decode [0b01100111, 0x10] = .instr (.rraZp0 0x10) [] ∧
    decode [0b11101011, 0x01] = .instr (.sbcImmEb 0x01) [] ∧ decode [0b10000000, 0x12] = .instr (.nopImm80 0x12) [] ∧
    decode [0b00000010, 0x00] = .instr .xxx02 [0x00] := by decide

/-- A list that ends before its instruction does is rejected by the opcode it began with; so is the empty list. -/
theorem test_truncated : decode [0x4C, 0x19] = .truncated 0x4C ∧ decode [0xA9] = .truncated 0xA9 ∧ decode [] = .noBytes := by decide

/-- The encoder writes the bytes of R111: opcode, then the low byte, then the high byte. -/
theorem test_encode :
    encode (.jmpAbs 0x8019) = [0x4C, 0x19, 0x80] ∧ encode (.bne (-4)) = [0xD0, 0xFC] ∧ encode .brk = [0x00] := by decide

/-- The host's word: bit 0 is the least significant bit of the first byte; operand bytes above nbits are 0. -/
theorem test_table_word :
    decodeTableWord 24 0x80194C = some (.jmpAbs 0x8019) ∧ decodeTableWord 8 0xFE = some (.incAbx 0) ∧
    decodeTableWord 16 0xFCD0 = some (.bne (-4)) := by decide

/-- The placed word is what the next step runs, from reset: INC $1234,X takes 7 cycles, LDA #$80 loads. -/
theorem test_fetch_word :
    (after (step (State.reset.withFetchWord 24 0x1234FE))).map (·.remaining) = some 6 ∧
    (after (step (State.reset.withFetchWord 16 0x80A9))).map (·.a) = some 0x80 := by decide

/-- What construction refuses: a mapper, a trainer, four screens, bank counts, a missing byte. -/
theorem test_refused_images :
    ∀ img ∈ [(⟨1, 1, .horizontal, false, 1, [], []⟩ : CartridgeImage), ⟨1, 1, .horizontal, true, 0, [], []⟩,
        ⟨1, 1, .fourScreen, false, 0, [], []⟩, ⟨3, 1, .vertical, false, 0, [], []⟩, ⟨1, 0, .vertical, false, 0, [], []⟩,
        ⟨1, 1, .vertical, false, 0, [0], []⟩], after (construct img Params.default) = none := by decide

/-- The header of R67: magic, counts, mirroring, mapper. -/
theorem test_ines_header :
    parseInes [0x4E, 0x45, 0x53, 0x1B, 1, 1, 0, 0, 0, 0, 0, 0, 0, 0, 0, 0] = .refused .badMagic ∧
    parseInes [0x4E, 0x45, 0x53, 0x1A, 1, 1, 4, 0, 0, 0, 0, 0, 0, 0, 0, 0] = .refused .trainerPresent ∧
    parseInes [0x4E, 0x45, 0x53, 0x1A, 1, 1, 8, 0, 0, 0, 0, 0, 0, 0, 0, 0] = .refused .fourScreenMirroring ∧
    parseInes [0x4E, 0x45, 0x53, 0x1A, 1, 1, 0x10, 0, 0, 0, 0, 0, 0, 0, 0, 0] = .refused .unsupportedMapper ∧
    parseInes [0x4E, 0x45, 0x53, 0x1A, 1, 1, 1, 0, 0, 0, 0, 0, 0, 0, 0, 0] = .refused .imageSize ∧
    parseInes [0x4E, 0x45, 0x53, 0x1A, 0, 0, 1, 0, 0, 0, 0, 0, 0, 0, 0, 0, 9] =
      .image ⟨0, 0, .vertical, false, 0, [], []⟩ := by decide

/-- Canonical memory: a zero is not listed, writing it removes the cell, indexes rise. -/
theorem test_memory_canonical :
    (Memory.write [(1, 5)] 1 0) = [] ∧ (Memory.write [(1, 5)] 0 7) = [(0, 7), (1, 5)] ∧
    Memory.wf 8 [(1, 5), (0, 7)] = false ∧ Memory.wf 8 [(1, 0)] = false ∧ Memory.wf 8 [(8, 1)] = false ∧
    Memory.wf 8 [(0, 7), (7, 5)] = true := by decide

/-! ### A witness for the hypotheses of each statement -/

/-- A well-formed state whose RAM is not empty, with every memory listed somewhere. -/
def sample : State :=
  { romState [0xE6, 0x10] with ram := [(0x10, 0xFF), (0x1FD, 0x80)], vram := [(0, 1), (0x7FF, 2)], pal := [(0, 1), (31, 2)] }

theorem witness_sample_wf : sample.Wf ∧ sample.halted = false ∧ sample.ram.wf ramSize = true := by decide

/-- The statements whose hypothesis is a canonical RAM: stores, read-modify-writes, pushes. -/
theorem witness_StoresWriteOnlyTheirByte : sample.ram.wf ramSize = true ∧ plainAddr 0x1810 = true ∧ plainAddr 0xFFFF = true := by decide
theorem witness_IncDecRewriteTheirByte : sample.ram.wf ramSize = true ∧ regionOf 0x0010 = .ram := by decide
theorem witness_ShiftsRewriteTheirByte : sample.ram.wf ramSize = true ∧ regionOf 0x1FFF = .ram := by decide
theorem witness_DcpAndIscRewriteThenCompareOrSubtract : sample.ram.wf ramSize = true ∧ regionOf 0x2000 = .ppuRegs := by decide
theorem witness_ShiftCombinationsRewriteThenCombine : sample.ram.wf ramSize = true ∧ regionOf 0x8000 = .prgRom := by decide
theorem witness_PushesAndPullsMoveOneByte : { sample with sp := 0x00 }.ram.wf ramSize = true ∧ ([] : List (Byte × Byte)) = [] := by decide
theorem witness_SubroutineCallAndReturn : { sample with sp := 0xFF }.ram.wf ramSize = true ∧ ([] : List (Byte × Byte)) = [] := by decide
theorem witness_BrkEntersAndRtiReturns : { sample with sp := 0x01 }.ram.wf ramSize = true ∧ ([] : List (Byte × Byte)) = [] := by decide
theorem witness_StackRoundTrips : { sample with sp := 0x00 }.ram.wf ramSize = true := by decide

/-- SBC with C set and clear. -/
theorem witness_SbcAddsTheInvertedOperand : getFlag .c { sample with p := 1 }.p = true ∧ getFlag .c sample.p = false := by decide

/-- The displacement's two ends. -/
theorem witness_BranchesGoToTheirTarget : (-128 : Int) ≤ -128 ∧ (-128 : Int) ≤ 127 ∧ (-128 : Int) ≤ 127 ∧ (127 : Int) ≤ 127 := by decide

/-- Both policies. -/
theorem witness_IllegalBytesRecordTheFault : sample.params.illegalOpcode = .halt ∧
    { sample with params := { sample.params with illegalOpcode := .nop } }.params.illegalOpcode = .nop := by decide

theorem witness_DecodeOfEncodeIsTheInstruction : (Instr.bne (-128)).WellFormed ∧ (Instr.bne 127).WellFormed ∧
    (Instr.jmpAbs 0xFFFF).WellFormed := by decide

theorem witness_DecodedBytesAreTheEncoding : decode [0xD0, 0x80, 0x01] = .instr (.bne (-128)) [0x01] := by decide

/-- Exactly the bytes of the instruction, and one too few. -/
theorem witness_DecoderIsTotalOnOpcodes : instrLength 0x4C ≤ [(0x19 : Byte), 0x80].length + 1 ∧
    [(0x19 : Byte)].length + 1 < instrLength 0x4C := by decide

/-- INC $10 at $8000, on a CPU tick at a boundary. -/
theorem witness_StepRunsDecodedInstruction : ∃ t, sample.halted = false ∧ sample.remaining = 0 ∧ sample.master.toNat % 3 = 0 ∧
    decode [busValue sample.pc sample, busValue (sample.pc + 1#16) sample, busValue (sample.pc + 2#16) sample] =
      .instr (.incZp0 0x10) [0x00] ∧
    (List.range (encode (.incZp0 0x10)).length).all (fun k => plainAddr (sample.pc + BitVec.ofNat 16 k)) = true ∧
    exec (.incZp0 0x10) { ppuTick sample with pc := sample.pc + 2#16, opcode := busValue sample.pc sample } = .next t :=
  ⟨_, by decide, by decide, by decide, by decide, by decide, rfl⟩

/-- An opcode of each branch of the statement. -/
theorem witness_FetchReadsTheBytesInOrder : busValue 0x8000 (romState [0x80, 0x12]) ∈ ([0x80, 0x82, 0x89, 0xC2, 0xE2] : List Byte) ∧
    busValue 0x8000 sample ∉ ([0x80, 0x82, 0x89, 0xC2, 0xE2] : List Byte) := by decide

theorem witness_EveryTickAnswersNext : { sample with halted := true, fault := some (.illegalOpcode 0 2) }.halted = true := by decide

/-- A tick between clocks with one cycle owed, and a CPU tick with two. -/
theorem witness_ClocksDrainOwedCycles :
    (sample.halted = false ∧ { sample with master := 1, remaining := 1 }.master.toNat % 3 ≠ 0 ∧ { sample with remaining := 1 }.remaining ≠ 0) ∧
    ({ sample with master := 3, remaining := 2 }.master.toNat % 3 = 0 ∧ 2 ≤ { sample with remaining := 2 }.remaining) := by decide

theorem witness_ArithmeticLaws : getFlag .c { sample with p := 1 }.p = true ∧ getFlag .c { sample with p := 0xFE }.p = false := by decide

/-- Both kinds of boundary tick. -/
theorem boundary_between_clocks : EndsAtBoundary { sample with master := 1 } := ⟨by decide, .inl ⟨by decide, by decide⟩⟩
theorem boundary_at_the_last_cycle : EndsAtBoundary { sample with master := 3, remaining := 1 } := ⟨by decide, .inr ⟨by decide, by decide⟩⟩

/-- A latched request, and one made by this tick's dot. -/
theorem witness_NmiEntry :
    (EndsAtBoundary { sample with master := 1, nmiPending := true } ∧ NmiRequested { sample with master := 1, nmiPending := true } = true) ∧
    (EndsAtBoundary { sample with master := 3, remaining := 1, ppu := { sample.ppu with scanline := 240, dot := 340, ctrl := 0x80 } } ∧
      NmiRequested { sample with master := 3, remaining := 1, ppu := { sample.ppu with scanline := 240, dot := 340, ctrl := 0x80 } } = true) :=
  ⟨⟨⟨by decide, .inl ⟨by decide, by decide⟩⟩, by decide⟩, ⟨⟨by decide, .inr ⟨by decide, by decide⟩⟩, by decide⟩⟩

/-- No NMI requested, with the line asserted and I clear, the line asserted and I set, the line not asserted. -/
theorem witness_IrqEntryOnlyWithIClear :
    (EndsAtBoundary { sample with master := 1, irqLine := true } ∧ NmiRequested { sample with master := 1, irqLine := true } = false ∧
      getFlag .i sample.p = false) ∧
    (EndsAtBoundary { sample with master := 1, irqLine := true, p := 4 } ∧ getFlag .i { sample with p := 4 }.p = true) ∧
    (EndsAtBoundary { sample with master := 3, remaining := 1 } ∧ sample.irqLine = false ∧ NmiRequested sample = false) :=
  ⟨⟨⟨by decide, .inl ⟨by decide, by decide⟩⟩, by decide, by decide⟩, ⟨⟨by decide, .inl ⟨by decide, by decide⟩⟩, by decide⟩,
    ⟨⟨by decide, .inr ⟨by decide, by decide⟩⟩, by decide, by decide⟩⟩

/-- A tick that delivers a pending NMI; one that executes an instruction while an NMI and the IRQ line wait; the two
kinds of draining tick with the IRQ line asserted. -/
theorem witness_InterruptsOnlyAtBoundaries :
    ((after (step { sample with master := 1, nmiPending := true })).map (fun t => t.nmiPending) = some false) ∧
    ((after (step { sample with nmiPending := true, irqLine := true })).map (fun t => (t.halted, t.nmiPending, t.pc)) =
      some (false, true, 0x8002)) ∧
    ((after (step { sample with master := 1, remaining := 1, irqLine := true })).map (fun t => (t.remaining, t.sp)) =
      some (1, sample.sp)) ∧
    ((after (step { sample with master := 3, remaining := 2, irqLine := true })).map (fun t => (t.remaining, t.sp)) =
      some (1, sample.sp)) ∧
    sample.master.toNat % 3 = 0 ∧ sample.remaining = 0 ∧ NmiRequested { sample with nmiPending := true } = true := by decide

/-- The three clauses at the positions where they meet. -/
theorem witness_PpuEventsOfATick : validPosition 240 340 = true ∧ validPosition 260 340 = true ∧ validPosition (-1) 0 = true ∧
    ¬ ((339 : Nat) = 340 ∧ ((240 : Int) = 240 ∨ (240 : Int) = 260)) ∧ ¬ ((340 : Nat) = 340 ∧ ((239 : Int) = 240 ∨ (239 : Int) = 260)) := by decide

theorem witness_FramePositionAdvances : sample.Wf ∧ sample.halted = false ∧ (after (step sample)).isSome = true ∧
    validPosition 261 0 = false ∧ validPosition (-2) 0 = false ∧ validPosition 0 341 = false := by decide

theorem witness_RunUntilFrameEndsAtThePulse : sample.Wf ∧ sample.halted = false ∧
    { sample with halted := true, fault := some (.illegalOpcode 0 2) }.halted = true := by decide

theorem witness_StepKeepsWellFormed : sample.Wf ∧ (after (step sample)).isSome = true := by decide

theorem witness_HostCallsKeepWellFormed : sample.Wf ∧
    call (.setPc 0x1234) sample = .next ({ sample with pc := 0x1234 }, .done) ∧
    call (.cpuWrite 0x0010 0x00) sample = .next (memWrite 0x0010 0x00 sample, .done) := ⟨by decide, rfl, rfl⟩

/-- The last tick before the counter would wrap is left out, the one before it is not. -/
theorem witness_CyclesAreACeilingOfMaster :
    (after (step { sample with master := 3, cycles := 1 })).map (fun t =>
        (t.halted, t.cycles, t.master)) = some (false, 2, 4) ∧
    (3#64).toNat + 1 < 2 ^ 64 ∧ (1#64).toNat = ((3#64).toNat + 2) / 3 ∧ (0xFFFFFFFFFFFFFFFE#64).toNat + 1 < 2 ^ 64 := by decide

theorem witness_TicksNeverWriteTheCartridge :
    (after (step { sample with fault := some (.romWrite .cpu 0x8000 1), romWriteSeen := true })).isSome = true ∧
    (after (step { sample with fault := some (.romWrite .cpu 0x8000 1), halted := true })).isSome = true := by decide

/-- The ends of each range of the CPU bus, as numbers. -/
theorem witness_CpuBusDecoder : (0x1FFF#16).toNat < 0x2000 ∧ (0x2000 ≤ (0x2000#16).toNat ∧ (0x3FFF#16).toNat < 0x4000) ∧
    (0x4016#16).toNat = 0x4016 ∧ (0x4017#16).toNat = 0x4017 ∧
    ([0x4000, 0x4015, 0x4018, 0x401F, 0x4020, 0x7FFF] : List Addr).all (fun a => decide
      (0x4000 ≤ a.toNat ∧ a.toNat < 0x8000 ∧ a.toNat ≠ 0x4016 ∧ a.toNat ≠ 0x4017)) = true ∧
    0x8000 ≤ (0x8000#16).toNat ∧ 0x8000 ≤ (0xFFFF#16).toNat := by decide

/-- The ends of RAM, of the device window and of the stubs, for the written and for the read address. -/
theorem witness_RamReadAfterWrite : sample.ram.wf ramSize = true ∧
    ([0x0000, 0x0010, 0x1810, 0x1FFF] : List Addr).all (fun a => decide (a.toNat < 0x2000)) = true ∧
    ([0x2000, 0x3FFF, 0x4016, 0xFFFF] : List Addr).all (fun a => decide (0x2000 ≤ a.toNat)) = true ∧
    ([0x0000, 0x1FFF, 0x4000, 0x4018, 0x8000, 0xFFFF] : List Addr).all plainAddr = true ∧
    ([0x4000, 0x4015, 0x4017, 0x7FFF, 0x8000, 0xFFFF] : List Addr).all (fun a => decide
      (0x4000 ≤ a.toNat ∧ a.toNat ≠ 0x4016)) = true := by decide

theorem witness_ReadsChangeOnlyDevices :
    ([0x1FFF, 0x2000, 0x2001, 0x2003, 0x3FFE, 0x4015, 0x4018, 0x8000] : List Addr).all (fun a => decide
      (¬ (0x2000 ≤ a.toNat ∧ a.toNat < 0x4000 ∧ (a.toNat % 8 = 2 ∨ a.toNat % 8 = 7)) ∧ a.toNat ≠ 0x4016 ∧ a.toNat ≠ 0x4017)) = true ∧
    ([0x2002, 0x3FFA] : List Addr).all (fun a => decide (0x2000 ≤ a.toNat ∧ a.toNat < 0x4000 ∧ a.toNat % 8 = 2)) = true ∧
    ([0x2007, 0x3FFF] : List Addr).all (fun a => decide (0x2000 ≤ a.toNat ∧ a.toNat < 0x4000 ∧ a.toNat % 8 = 7)) = true ∧
    (0x4016#16).toNat = 0x4016 ∧ (0x4017#16).toNat = 0x4017 ∧
    ([0x4000, 0x4017, 0x7FFF] : List Addr).all (fun a => decide
      (0x4000 ≤ a.toNat ∧ a.toNat < 0x8000 ∧ a.toNat ≠ 0x4016)) = true ∧
    ([0x2002, 0x3FFB, 0x3FFC] : List Addr).all (fun a => decide (0x2000 ≤ a.toNat ∧ a.toNat < 0x4000 ∧
      (a.toNat % 8 = 2 ∨ a.toNat % 8 = 3 ∨ a.toNat % 8 = 4))) = true := by decide

theorem witness_RomWritesFollowThePolicy : 0x8000 ≤ (0x8000#16).toNat ∧ (0x5FFF#16).toNat % 16384 < 0x2000 ∧
    sample.params.romWrite = .ignore ∧
    { sample with params := { sample.params with romWrite := .fault } }.params.romWrite = .fault ∧
    { sample with halted := true }.halted = true := by decide

theorem witness_VramAndPaletteAliases : sample.vram.wf vramSize = true ∧ sample.pal.wf palSize = true ∧
    ([0x2000, 0x2FFF, 0x3000, 0x3EFF, 0x6000, 0xFEFF] : List Addr).all (fun a => decide
      (0x2000 ≤ a.toNat % 16384 ∧ a.toNat % 16384 < 0x3F00)) = true ∧
    ([0x3F00, 0x3F10, 0x3FFF, 0x7F00, 0xFFFF] : List Addr).all (fun a => decide (0x3F00 ≤ a.toNat % 16384)) = true := by decide

/-- A nametable write and a palette write leave each other's bytes and the pattern bytes alone (20_memory.md R77). -/
theorem test_ppu_bus_devices_apart :
    ppuRead 0x3F00 (ppuWrite 0x2000 0x77 sample) = 1 ∧ ppuRead 0x2000 (ppuWrite 0x3F00 0x77 sample) = 1 ∧
    ppuRead 0x0000 (ppuWrite 0x2000 0x77 sample) = 0 ∧ ppuRead 0x0000 (ppuWrite 0x3F00 0x77 sample) = 0 := by decide

/-- The eight registers at the two ends of the window. -/
theorem witness_PpuStatusReadAndStubs : sample.Wf ∧
    ([0x2002, 0x3FFA] : List Addr).all (fun a => decide (0x2000 ≤ a.toNat ∧ a.toNat < 0x4000 ∧ a.toNat % 8 = 2)) = true ∧
    ([0x2002, 0x2003, 0x3FFC] : List Addr).all (fun a => decide (0x2000 ≤ a.toNat ∧ a.toNat < 0x4000 ∧
      (a.toNat % 8 = 2 ∨ a.toNat % 8 = 3 ∨ a.toNat % 8 = 4))) = true ∧
    ([0x2000, 0x3FFE] : List Addr).all (fun a => decide (0x2000 ≤ a.toNat ∧ a.toNat < 0x4000 ∧ a.toNat % 8 ≠ 2 ∧
      a.toNat % 8 ≠ 7)) = true := by decide

theorem witness_PpuDataAccess :
    ([0x2007, 0x3FFF] : List Addr).all (fun a => decide (0x2000 ≤ a.toNat ∧ a.toNat < 0x4000 ∧ a.toNat % 8 = 7)) = true := by
  decide

theorem witness_PpuControlScrollAddressWrites :
    ([0x2000, 0x2001, 0x2005, 0x3FFD, 0x2006, 0x3FFE] : List Addr).all (fun a => decide (0x2000 ≤ a.toNat ∧ a.toNat < 0x4000 ∧
      (a.toNat % 8 = 0 ∨ a.toNat % 8 = 1 ∨ a.toNat % 8 = 5 ∨ a.toNat % 8 = 6))) = true ∧
    sample.ppu.w = false ∧ { sample.ppu with w := true }.w = true := by decide

theorem witness_ControllersStrobeShiftAndSetButton : ((1 : Nat) ≤ 1 ∧ ∃ k < 8, (0x80#8) = 1#8 <<< k) ∧
    ((0 : Nat) ≤ 1 ∧ ∃ k < 8, (0x01#8) = 1#8 <<< k) ∧ ¬ ((2 : Nat) ≤ 1 ∧ ∃ k < 8, (0x01#8) = 1#8 <<< k) ∧
    ¬ ((0 : Nat) ≤ 1 ∧ ∃ k < 8, (0x03#8) = 1#8 <<< k) := by decide

theorem witness_TilesAndPatternTableImage : ((1 : Nat) < 2 ∧ (7 : Nat) < 8) ∧ ((1 : Nat) ≤ 1 ∧ (7 : Nat) ≤ 7 ∧ (255 : Nat) < 256) ∧
    ((7 : Nat) < 8 ∧ (3 : Nat) < 4) ∧ ¬ ((2 : Nat) ≤ 1 ∧ (0 : Nat) ≤ 7) ∧ ¬ ((0 : Nat) ≤ 1 ∧ (8 : Nat) ≤ 7) := by decide

/-- Palette 7, entry 3 reads palette byte 31, which holds 2, and the colour table at it (60_exceptions.md R299). -/
theorem test_colour_reads_the_palette_byte : colour 7 3 sample = Config.ntscPalette 2 ∧
    colour 0 0 { sample with pal := [(0, 0xC1)] } = Config.ntscPalette 1 := ⟨rfl, rfl⟩

theorem witness_BackgroundImage : (255 : Nat) < 256 ∧ (239 : Nat) < 240 := by decide

theorem witness_FirstInstructionAtTick21 : State.reset.halted = false ∧ State.reset.irqLine = false := by decide

/-- An accepted image: one PRG bank of zeros, vertical mirroring. -/
def oneBank (prg chr : Nat) : CartridgeImage := ⟨1, 1, .vertical, false, 0, List.replicate prg 0xEA, List.replicate chr 0⟩

theorem oneBank_accepted (prg chr : Nat) (hp : prg = 16384) (hc : chr = 8192) :
    ∃ s, construct (oneBank prg chr) Params.default = .next s := by
  have hl : (List.replicate prg (0xEA#8 : Byte)).length = PrgBanks.one.size ∧ (List.replicate chr (0#8 : Byte)).length = chrSize :=
    ⟨List.length_replicate.trans hp, List.length_replicate.trans hc⟩
  have h : checkImage (oneBank prg chr) = .accepted .one .vertical := if_pos hl
  exact ⟨_, by rw [construct, h]; rfl⟩

theorem witness_ResetIsWellFormed : ∃ s, construct (oneBank 16384 8192) Params.default = .next s := oneBank_accepted _ _ rfl rfl

/-- The accepted image meets the conditions one by one; a mapper makes them fail. -/
theorem witness_ConstructionAcceptsNromOnly :
    ((oneBank 16384 8192).mapper = 0 ∧ (oneBank 16384 8192).trainer = false ∧ (oneBank 16384 8192).mirroring ≠ .fourScreen ∧
      (oneBank 16384 8192).prgBanks = 1 ∧ (oneBank 16384 8192).chrBanks = 1 ∧
      (oneBank 16384 8192).prg.length = 16384 * (oneBank 16384 8192).prgBanks ∧ (oneBank 16384 8192).chr.length = 8192 ∧
      validPosition Params.default.resetScanline Params.default.resetDot = true) ∧
    ¬ ({ oneBank 0 0 with mapper := 1 }.mapper = 0) :=
  ⟨⟨rfl, rfl, by decide, rfl, rfl, List.length_replicate, List.length_replicate, by decide⟩, by decide⟩

/-- Reset has canonical memories and the vector of its cartridge. -/
theorem test_reset_state : State.reset.Wf ∧ systemReset State.reset = State.reset ∧ State.reset.sp = 0xFD ∧ State.reset.remaining = 7 := by
  decide

end Sys2Proof.Tests
end

section
/-! PROOFS. The state through a tick and a reset (O41, O30, O45, O43, O59): what every part of a tick keeps, the
tick keeps; a reset in one record. -/

namespace Sys2Proof.Machine

/-! ### What every part of a tick keeps, the tick keeps -/

/-- A relation of the states before and after that holds over each part of a master tick: the PPU's dot, what an
instruction or an interrupt entry does, the count of a clock, the NMI request cleared, the count of the tick. -/
structure KeptByTick (R : State → State → Prop) : Prop where
  refl : ∀ s, R s s
  trans : ∀ {s t u}, R s t → R t u → R s u
  dot : ∀ s, R s (ppuTick s)
  within : ∀ {s t}, Within s t → t.remaining ≤ 8 → R s t
  clock : ∀ s, R s (countClock s)
  nmiTaken : ∀ s, R s { s with nmiPending := false }
  counted : ∀ s, R s { s with master := s.master + 1#64 }

namespace KeptByTick

variable {R : State → State → Prop}

theorem of_interruptEntry (k : KeptByTick R) (v : Addr) {n : Nat} (hn : n ≤ 8) (s : State) :
    R s (interruptEntry v n s) :=
  k.within (within_interruptEntry v n s) hn

theorem of_interruptCheck (k : KeptByTick R) (s : State) : R s (interruptCheck s) := by
  unfold interruptCheck
  split_ifs
  · exact k.refl s
  · exact k.trans (k.nmiTaken s) (k.of_interruptEntry nmiVector le_rfl _)
  · exact k.of_interruptEntry irqVector (by omega) s
  · exact k.refl s

theorem of_endTick (k : KeptByTick R) (s : State) : R s (endTick s) := by
  unfold endTick
  refine k.trans ?_ (k.counted _)
  split
  · exact k.refl s
  · exact k.of_interruptCheck s

theorem of_countClockUnlessHalted (k : KeptByTick R) (s : State) : R s (countClockUnlessHalted s) := by
  unfold countClockUnlessHalted
  split
  · exact k.refl s
  · exact k.clock s

/-- The induction over the kinds of a tick, done once (R300). -/
theorem of_step (k : KeptByTick R) {s t : State} (h : step s = .next t) : R s t := by
  by_cases hh : s.halted = true
  · obtain rfl : s = t := by simpa [step_of_halted hh] using h
    exact k.refl s
  · obtain ⟨u, hu, hcases⟩ := step_cases (Bool.eq_false_of_not_eq_true hh)
    obtain rfl : endTick u = t := by simpa [hu] using h
    refine k.trans (k.trans (k.dot s) ?_) (k.of_endTick u)
    rcases hcases with ⟨-, rfl⟩ | ⟨-, -, rfl⟩ | ⟨-, -, v, -, hw, hr, rfl⟩
    · exact k.refl _
    · exact k.clock _
    · have hr8 : v.remaining ≤ 8 := by omega
      exact k.trans (k.within hw hr8) (k.of_countClockUnlessHalted v)

end KeptByTick

/-! ### The invariant -/

/-- The invariant, conjunct by conjunct. -/
theorem State.wf_iff (s : State) :
    s.Wf ↔ s.ram.wf ramSize = true ∧ s.vram.wf vramSize = true ∧ s.pal.wf palSize = true ∧ s.cart.wf = true ∧
      validPosition s.ppu.scanline s.ppu.dot = true ∧ s.ppu.status &&& 0x7F#8 = 0#8 ∧ s.remaining ≤ 8 ∧
      validPosition s.params.resetScanline s.params.resetDot = true ∧
      (s.halted = true → s.fault.isSome = true) := by
  simp [State.Wf, State.wf, Ppu.wf, and_assoc, imp_iff_not_or]

/-- What an instruction or an interrupt entry does keeps the invariant, as long as it owes no more than 8 cycles. -/
theorem State.Wf.of_within {s t : State} (hs : s.Wf) (hw : Within s t) (hr : t.remaining ≤ 8) : t.Wf := by
  obtain ⟨hram, hvram, hpal, hcart, hpos, hstatus, -, hreset, hhalt⟩ := s.wf_iff.1 hs
  refine t.wf_iff.2 ⟨hw.ram hram, hw.vram hvram, hw.pal hpal, ?_, ?_, hw.status hstatus, hr, ?_, hw.haltedFault hhalt⟩
  · rwa [hw.cart]
  · rwa [hw.scanline, hw.dot]
  · rwa [hw.params]

/-- The events of a scanline write VBL alone of the status bits that can be set (R284, R285). -/
theorem ppuTick_status {s : State} (h : s.ppu.status &&& 0x7F#8 = 0#8) : (ppuTick s).ppu.status &&& 0x7F#8 = 0#8 := by
  have hadv : s.ppu.advance.status = s.ppu.status := by unfold Ppu.advance; split <;> rfl
  unfold ppuTick
  rw [scanlineEvent_eq]
  split
  · dsimp only
    rw [hadv]
    split_ifs
    · rw [BitVec.and_comm, BitVec.and_or_distrib_left, BitVec.and_comm, h]; rfl
    · rw [BitVec.and_assoc, BitVec.and_comm 0x1F#8, ← BitVec.and_assoc, h]; rfl
    · exact h
  · rwa [hadv]

theorem State.Wf.ppuTick {s : State} (hs : s.Wf) : (ppuTick s).Wf := by
  obtain ⟨hram, hvram, hpal, hcart, hpos, hstatus, hrem, hreset, hhalt⟩ := s.wf_iff.1 hs
  refine (State.wf_iff _).2 ⟨?_, ?_, ?_, ?_, ppuTick_validPosition s hpos, ppuTick_status hstatus, ?_, ?_, ?_⟩ <;>
    simpa

theorem State.Wf.countClock {s : State} (hs : s.Wf) : (countClock s).Wf := by
  obtain ⟨hram, hvram, hpal, hcart, hpos, hstatus, hrem, hreset, hhalt⟩ := s.wf_iff.1 hs
  exact (State.wf_iff _).2 ⟨hram, hvram, hpal, hcart, hpos, hstatus, (Nat.sub_le _ _).trans hrem, hreset, hhalt⟩

theorem keptByTick_wf : KeptByTick fun s t => s.Wf → t.Wf where
  refl _ := id
  trans h k := k ∘ h
  dot _ := State.Wf.ppuTick
  within hw hr hs := hs.of_within hw hr
  clock _ := State.Wf.countClock
  nmiTaken _ := id
  counted _ := id

/-- Settles O41: the invariant is kept by each part of a tick. -/
theorem stepKeepsWellFormed : Obligations.StepKeepsWellFormed :=
  fun _ _ hs h => keptByTick_wf.of_step h hs

/-! ### Inputs and sticky bits -/

/-- The inputs are the same, and what is sticky has not been cleared (R36, R39, R72). -/
structure InputsKept (s t : State) : Prop where
  cart : t.cart = s.cart
  params : t.params = s.params
  irqLine : t.irqLine = s.irqLine
  buttons0 : t.ctl0.buttons = s.ctl0.buttons
  buttons1 : t.ctl1.buttons = s.ctl1.buttons
  fault : ∀ f, s.fault = some f → t.fault = some f
  halted : s.halted = true → t.halted = true
  seen : s.romWriteSeen = true → t.romWriteSeen = true

theorem InputsKept.refl (s : State) : InputsKept s s := ⟨rfl, rfl, rfl, rfl, rfl, fun _ => id, id, id⟩

theorem InputsKept.trans {s t u : State} (h : InputsKept s t) (k : InputsKept t u) : InputsKept s u where
  cart := k.cart.trans h.cart
  params := k.params.trans h.params
  irqLine := k.irqLine.trans h.irqLine
  buttons0 := k.buttons0.trans h.buttons0
  buttons1 := k.buttons1.trans h.buttons1
  fault f q := k.fault f (h.fault f q)
  halted q := k.halted (h.halted q)
  seen q := k.seen (h.seen q)

theorem Within.inputsKept {s t : State} (h : Within s t) : InputsKept s t :=
  ⟨h.cart, h.params, h.irqLine, h.buttons0, h.buttons1, h.fault, h.halted, h.seen⟩

theorem keptByTick_inputs : KeptByTick InputsKept where
  refl := InputsKept.refl
  trans := InputsKept.trans
  dot s := by rw [ppuTick_eq]; exact ⟨rfl, rfl, rfl, rfl, rfl, fun _ => id, id, id⟩
  within hw _ := hw.inputsKept
  clock _ := ⟨rfl, rfl, rfl, rfl, rfl, fun _ => id, id, id⟩
  nmiTaken _ := ⟨rfl, rfl, rfl, rfl, rfl, fun _ => id, id, id⟩
  counted _ := ⟨rfl, rfl, rfl, rfl, rfl, fun _ => id, id, id⟩

/-- Settles O45: each part of a tick keeps the inputs and what is sticky. -/
theorem ticksNeverWriteTheCartridge : Obligations.TicksNeverWriteTheCartridge := by
  intro s t h
  obtain ⟨hcart, hparams, hirq, hb0, hb1, hfault, hhalted, hseen⟩ := keptByTick_inputs.of_step h
  exact ⟨hcart, hparams, hirq, hb0, hb1, hfault, hhalted, hseen⟩

/-! ### Reset and construction -/

/-- A reset in one record: its vector is two PRG ROM bytes, so reading it has no side effect (R260, R307). -/
theorem systemReset_eq (s : State) :
    systemReset s = { s with
      a := 0, x := 0, y := 0, p := 0, sp := 0xFD
      pc := addrOf (prgRead (resetVector + 1#16) s) (prgRead resetVector s)
      remaining := 7, opcode := 0, fetched := 0, ea := 0, cycles := 0, instructions := 0
      ppu := Ppu.atPosition s.params.resetScanline s.params.resetDot
      nmiPending := false, master := 0 } := by
  obtain ⟨-, -, -, -, h0, h1⟩ := regionOf_vectors
  simp only [systemReset, cpuReset, memRead16_of_prgRom _ h0 h1]
  rfl

/-- Settles O30: a running tick is of one of three kinds, each of which answers a next state; a halted one does nothing. -/
theorem everyTickAnswersNext : Obligations.EveryTickAnswersNext := by
  intro s
  refine ⟨?_, fun hh => ⟨step_of_halted hh, by rwa [systemReset_eq]⟩⟩
  by_cases hh : s.halted = true
  · exact ⟨s, step_of_halted hh⟩
  · obtain ⟨u, hu, -⟩ := step_cases (Bool.eq_false_of_not_eq_true hh)
    exact ⟨_, hu⟩

theorem Ppu.atPosition_status (line : Int) (dot : Nat) : (Ppu.atPosition line dot).status &&& 0x7F#8 = 0#8 := by
  simp [Ppu.atPosition]

theorem State.Wf.systemReset {s : State} (hs : s.Wf) : (systemReset s).Wf := by
  obtain ⟨hram, hvram, hpal, hcart, -, -, -, hreset, hhalt⟩ := s.wf_iff.1 hs
  rw [systemReset_eq, State.wf_iff]
  exact ⟨hram, hvram, hpal, hcart, hreset, Ppu.atPosition_status _ _, Nat.le_succ 7, hreset, hhalt⟩

/-- An accepted image has the sizes its banks say (R68). -/
theorem checkImage_sizes {img : CartridgeImage} {b : PrgBanks} {m : Mirroring} (h : checkImage img = .accepted b m) :
    img.prg.length = b.size ∧ img.chr.length = chrSize := by
  unfold checkImage at h
  split_ifs at h
  split at h
  · cases h
  · cases h
  all_goals
    split_ifs at h with hsizes
    cases h
    exact hsizes

/-- The cartridge of an image of the right sizes is canonical. -/
theorem cartridgeOf_wf {img : CartridgeImage} {b : PrgBanks} (m : Mirroring) (hp : img.prg.length = b.size)
    (hc : img.chr.length = chrSize) : (cartridgeOf img b m).wf = true := by
  simp [Cartridge.wf, cartridgeOf, Memory.wf_ofBytes _ _ hp.le, Memory.wf_ofBytes _ _ hc.le]

/-- What an accepted construction answers (R308). -/
theorem construct_next {img : CartridgeImage} {params : Params} {s : State} (h : construct img params = .next s) :
    ∃ b m, checkImage img = .accepted b m ∧ validPosition params.resetScanline params.resetDot = true ∧
      s = State.constructed (cartridgeOf img b m) params := by
  unfold construct at h
  split at h
  · cases h
  next b m hc =>
    split_ifs at h with hv
    exact ⟨b, m, hc, hv, by cases h; rfl⟩

/-- The construction state of a canonical cartridge at a valid reset position meets the invariant (R37, R40). -/
theorem constructed_wf {cart : Cartridge} {params : Params} (hc : cart.wf = true)
    (hv : validPosition params.resetScanline params.resetDot = true) : (State.constructed cart params).Wf := by
  rw [State.wf_iff]
  exact ⟨rfl, rfl, rfl, hc, hv, Ppu.atPosition_status _ _, Nat.zero_le _, hv, nofun⟩

/-- Settles O43: memories of images are canonical, and a reset keeps the invariant. -/
theorem resetIsWellFormed : Obligations.ResetIsWellFormed := by
  refine ⟨by decide, fun img params s h => ?_⟩
  obtain ⟨b, m, hc, hv, rfl⟩ := construct_next h
  obtain ⟨hprg, hchr⟩ := checkImage_sizes hc
  have hs := constructed_wf (cartridgeOf_wf m hprg hchr) hv
  exact ⟨hs, hs.systemReset⟩

/-- A list of zero bytes is the memory with nothing listed. -/
theorem Memory.ofBytes_replicate_zero (n : Nat) : Memory.ofBytes (List.replicate n 0#8) = [] := by
  suffices h : ∀ base, Memory.ofBytesFrom base (List.replicate n 0#8) = [] from h 0
  induction n with
  | zero => exact fun _ => rfl
  | succ n ih =>
    intro base
    exact (if_pos rfl).trans (ih (base + 1))

/-- An image of mapper 0 without trainer, mirrored horizontally, is accepted when its bytes have the sizes its banks
say (R68). -/
theorem checkImage_horizontal {img : CartridgeImage} {b : PrgBanks} (hmapper : img.mapper = 0)
    (htrainer : img.trainer = false) (hmirror : img.mirroring = .horizontal)
    (hbanks : acceptedBanks img.prgBanks img.chrBanks = some b) (hprg : img.prg.length = b.size)
    (hchr : img.chr.length = chrSize) : checkImage img = .accepted b .horizontal := by
  simp [checkImage, hmapper, htrainer, hmirror, hbanks, hprg, hchr]

/-- The two-bank image of zeros. -/
def blankImage : CartridgeImage :=
  { prgBanks := 2, chrBanks := 1, mirroring := .horizontal, trainer := false, mapper := 0
    prg := List.replicate 32768 0#8, chr := List.replicate 8192 0#8 }

theorem checkImage_blankImage : checkImage blankImage = .accepted .two .horizontal :=
  checkImage_horizontal rfl rfl rfl rfl List.length_replicate List.length_replicate

theorem cartridgeOf_blankImage : cartridgeOf blankImage .two .horizontal = Cartridge.blank := by
  simp only [cartridgeOf, blankImage, Memory.ofBytes_replicate_zero, Cartridge.blank]

/-- Settles O59: the image of zeros is the blank cartridge, whose reset vector reads 0. -/
theorem powerOnOfABlankCartridgeIsReset : Obligations.PowerOnOfABlankCartridgeIsReset := by
  have hconstruct : construct blankImage Params.default = .next (State.constructed Cartridge.blank Params.default) := by
    rw [construct, checkImage_blankImage, ← cartridgeOf_blankImage]
    rfl
  have hreset : systemReset (State.constructed Cartridge.blank Params.default) = State.reset := by
    rw [systemReset_eq]
    decide
  change powerOn blankImage Params.default = _
  rw [powerOn, hconstruct, ← hreset]

end Sys2Proof.Machine
end

section
/-! PROOFS. Stack round trips (O34): what was pushed is pulled, the CPU's registers but SP having changed in between. -/

namespace Sys2Proof.Machine

/-- A byte of the stack page read after one was stored there. -/
theorem read_write_stack {m : Memory} (h : m.wf ramSize = true) (j k v : Byte) :
    (m.write (256 + k.toNat) v).read (256 + j.toNat) = if k = j then v else m.read (256 + j.toNat) := by
  rw [Memory.read_write h]
  simp only [Nat.add_left_cancel_iff, BitVec.toNat_inj]

theorem wf_write_stack {m : Memory} (h : m.wf ramSize = true) (k v : Byte) :
    (m.write (256 + k.toNat) v).wf ramSize = true := by
  have hk := k.isLt
  exact Memory.wf_write h v (by simp only [ramSize]; omega)

theorem addrOf_hiByte_loByte (a : Addr) : addrOf (hiByte a) (loByte a) = a := by
  apply BitVec.eq_of_toNat_eq
  rw [addrOf_toNat, hiByte_toNat, loByte_toNat]
  omega

/-- The state an instruction ends in: its cycles owed, counted (R136, R137). -/
def finished (n : Nat) (s : State) : State := { s with remaining := n, instructions := s.instructions + 1#64 }

theorem finish_eq_finished (base extra : Nat) (s : State) : finish base extra s = .next (finished (base + extra) s) := rfl

/-- One byte pushed, then pulled. -/
theorem pull_of_push {s t : State} {v : Byte} (hw : s.ram.wf ramSize = true) (hram : t.ram = (push v s).ram)
    (hsp : t.sp = (push v s).sp) : pull t = (v, { t with sp := s.sp }) := by
  simp only [push_eq] at hram hsp
  simp only [pull_eq, hram, hsp, sub_add_cancel, read_write_stack hw, if_true]

/-- RTS finds the two bytes JSR pushed: they lie in different places, wrap included. -/
theorem returnFromSubroutine_of_jump {s t : State} {w : Addr} (hw : s.ram.wf ramSize = true)
    (hram : t.ram = (jumpToSubroutine w s).ram) (hsp : t.sp = (jumpToSubroutine w s).sp) :
    returnFromSubroutine t = { t with pc := s.pc, sp := s.sp } := by
  have hne : s.sp - 1 ≠ s.sp := by simp
  have hw1 := wf_write_stack hw s.sp (hiByte (s.pc - 1#16))
  simp only [jumpToSubroutine, push_eq, setPc, setEa] at hram hsp
  simp only [returnFromSubroutine, pull_eq, hram, hsp, sub_add_cancel, read_write_stack hw1, read_write_stack hw, hne,
    if_true, if_false, addrOf_hiByte_loByte, setPc]

/-- RTI finds the three bytes an interrupt entry pushed: they lie in different places, wrap included. -/
theorem returnFromException_interruptEntry {s : State} {v : Addr} (n : Nat) (hw : s.ram.wf ramSize = true)
    (h0 : regionOf v = .prgRom) (h1 : regionOf (v + 1#16) = .prgRom) :
    returnFromException (interruptEntry v n s) =
      { interruptEntry v n s with pc := s.pc, sp := s.sp, p := pulledStatus (pushedByInterrupt s.p) } := by
  have hne1 : s.sp - 1#8 ≠ s.sp := by simp
  have hne2 : s.sp - 1#8 - 1#8 ≠ s.sp - 1#8 := by simp
  have hne3 : s.sp - 1#8 - 1#8 ≠ s.sp := by rw [BitVec.sub_sub]; simp
  have hw1 := wf_write_stack hw s.sp (hiByte s.pc)
  have hw2 := wf_write_stack hw1 (s.sp - 1#8) (loByte s.pc)
  simp only [returnFromException_eq, interruptEntry_eq n s h0 h1, sub_add_cancel, read_write_stack hw2,
    read_write_stack hw1, read_write_stack hw, hne1, hne2, hne3, if_true, if_false, addrOf_hiByte_loByte]

/-- Forcing B and U in the pushed byte is undone by the pull. -/
theorem pulledStatus_pushedByInstruction (p : Byte) : pulledStatus (pushedByInstruction p) = p &&& 0xCF#8 :=
  status_ext fun f => by cases f <;> simp [pulledStatus, pushedByInstruction, getFlag, Flag.index]

theorem pulledStatus_pushedByInterrupt (p : Byte) : pulledStatus (pushedByInterrupt p) = p &&& 0xCF#8 :=
  status_ext fun f => by cases f <;> simp [pulledStatus, pushedByInterrupt, getFlag, Flag.index]

/-- Settles O34: each return finds the bytes its counterpart pushed. -/
theorem stackRoundTrips : Obligations.StackRoundTrips := by
  intro s hw
  refine ⟨fun w => ⟨finished 6 (jumpToSubroutine w s), _, finish_eq_finished 6 0 _, finish_eq_finished 6 0 _, ?_⟩,
    ⟨finished 3 (push s.a s), _, finish_eq_finished 3 0 _, finish_eq_finished 4 0 _, ?_⟩,
    ⟨finished 3 (push (pushedByInstruction s.p) s), _, finish_eq_finished 3 0 _, finish_eq_finished 4 0 _, ?_⟩,
    ⟨_, finish_eq_finished 6 0 _, ?_⟩⟩
  · rw [returnFromSubroutine_of_jump (t := finished 6 (jumpToSubroutine w s)) hw rfl rfl]
    exact ⟨rfl, rfl⟩
  · rw [pull_of_push (t := setA 0#8 (finished 3 (push s.a s))) hw rfl rfl]
    exact ⟨rfl, rfl⟩
  · rw [pull_of_push (t := setP 0#8 (finished 3 (push (pushedByInstruction s.p) s))) hw rfl rfl]
    exact ⟨pulledStatus_pushedByInstruction s.p, rfl⟩
  · obtain ⟨-, -, h0, h1, -⟩ := regionOf_vectors
    rw [returnFromException_interruptEntry 7 hw h0 h1]
    exact ⟨rfl, rfl, pulledStatus_pushedByInterrupt s.p⟩

end Sys2Proof.Machine
end

section
/-! PROOFS. The fetch (O29): one bus read for each byte, in rising addresses. -/

namespace Sys2Proof.Machine

/-- The no-operations in mode IMM step over their operand byte; every other opcode reads as many operand bytes as its
length says (R138, R251). -/
theorem operandFetch_cases : ∀ op : Byte,
    (op ∈ ([0x80, 0x82, 0x89, 0xC2, 0xE2] : List Byte) ∧ operandFetch (entryOf op) = .skipped ∧ instrLength op = 2) ∨
    (op ∉ ([0x80, 0x82, 0x89, 0xC2, 0xE2] : List Byte) ∧
      ((operandFetch (entryOf op) = .none ∧ instrLength op = 1) ∨
       (operandFetch (entryOf op) = .one ∧ instrLength op = 2) ∨
       (operandFetch (entryOf op) = .two ∧ instrLength op = 3))) := by
  decide

theorem decode_of_length_one {op : Byte} (h : instrLength op = 1) (rest : List Byte) :
    decode (op :: rest) = .instr (instrOf op 0 0) rest := by
  simp [decode, h]

theorem decode_of_length_two {op : Byte} (h : instrLength op = 2) (b : Byte) (rest : List Byte) :
    decode (op :: b :: rest) = .instr (instrOf op b 0) rest := by
  simp [decode, h]

theorem decode_of_length_three {op : Byte} (h : instrLength op = 3) (b1 b2 : Byte) (rest : List Byte) :
    decode (op :: b1 :: b2 :: rest) = .instr (instrOf op b1 b2) rest := by
  simp [decode, h]

theorem setPc_setPc (v w : Addr) (t : State) : setPc v (setPc w t) = setPc v t := rfl

theorem setPc_setOpcode (v : Addr) (op : Byte) (t : State) : setPc v (setOpcode op t) = setOpcode op (setPc v t) := rfl

section
variable {s : State}

/-- The operand byte is stepped over. -/
theorem fetchInstr_skipped (h : operandFetch (entryOf (busValue s.pc s)) = .skipped) :
    fetchInstr s = (instrOf (busValue s.pc s) (busValue (s.pc + 1#16) (busReadEffect s.pc s)) 0,
      setOpcode (busValue s.pc s) (setPc (s.pc + 1#16 + 1#16) (busReadEffect s.pc s))) := by
  simp [fetchInstr, fetchOperands, fetchOpcode, readAtPc, memRead, h, setPc_setPc, setPc_setOpcode]

/-- The opcode byte is the only read. -/
theorem fetchInstr_none (h : operandFetch (entryOf (busValue s.pc s)) = .none) :
    fetchInstr s = (instrOf (busValue s.pc s) 0 0,
      setOpcode (busValue s.pc s) (setPc (s.pc + 1#16) (busReadEffect s.pc s))) := by
  simp [fetchInstr, fetchOperands, fetchOpcode, readAtPc, memRead, h]

/-- One operand byte is read. -/
theorem fetchInstr_one (h : operandFetch (entryOf (busValue s.pc s)) = .one) :
    fetchInstr s = (instrOf (busValue s.pc s) (busValue (s.pc + 1#16) (busReadEffect s.pc s)) 0,
      setOpcode (busValue s.pc s)
        (setPc (s.pc + 1#16 + 1#16) (busReadEffect (s.pc + 1#16) (busReadEffect s.pc s)))) := by
  simp [fetchInstr, fetchOperands, fetchOpcode, readAtPc, memRead, h, setPc_setPc, setPc_setOpcode]

/-- Two operand bytes are read. -/
theorem fetchInstr_two (h : operandFetch (entryOf (busValue s.pc s)) = .two) :
    fetchInstr s = (instrOf (busValue s.pc s) (busValue (s.pc + 1#16) (busReadEffect s.pc s))
        (busValue (s.pc + 1#16 + 1#16) (busReadEffect (s.pc + 1#16) (busReadEffect s.pc s))),
      setOpcode (busValue s.pc s) (setPc (s.pc + 1#16 + 1#16 + 1#16)
        (busReadEffect (s.pc + 1#16 + 1#16) (busReadEffect (s.pc + 1#16) (busReadEffect s.pc s))))) := by
  simp [fetchInstr, fetchOperands, fetchOpcode, readAtPc, memRead, h, setPc_setPc, setPc_setOpcode]

end

/-- Settles O29: each of the four ways to fetch operand bytes reads what the decoder is given. -/
theorem fetchReadsTheBytesInOrder : Obligations.FetchReadsTheBytesInOrder := by
  intro s
  have two : s.pc + 1#16 + 1#16 = s.pc + 2#16 := BitVec.add_assoc _ _ _
  have three : s.pc + 1#16 + 1#16 + 1#16 = s.pc + 3#16 := by rw [BitVec.add_assoc, BitVec.add_assoc]; rfl
  dsimp only
  obtain ⟨hop, hf, hn⟩ | ⟨hop, ⟨hf, hn⟩ | ⟨hf, hn⟩ | ⟨hf, hn⟩⟩ := operandFetch_cases (busValue s.pc s)
  · rw [if_pos hop, fetchInstr_skipped hf, two]
    exact ⟨rfl, _, decode_of_length_two hn _ _⟩
  · rw [if_neg hop, fetchInstr_none hf, hn]
    exact ⟨rfl, decode_of_length_one hn _⟩
  · rw [if_neg hop, fetchInstr_one hf, hn, two]
    exact ⟨rfl, decode_of_length_two hn _ _⟩
  · rw [if_neg hop, fetchInstr_two hf, hn, three]
    exact ⟨rfl, decode_of_length_three hn _ _ _⟩

end Sys2Proof.Machine
end

section
/-! PROOFS. The PPU's registers on the CPU bus (O51). -/

namespace Sys2Proof.Machine

/-- The window of the PPU's registers (R73). -/
theorem regionOf_ppuRegs {a : Addr} (h0 : 0x2000 ≤ a.toNat) (h1 : a.toNat < 0x4000) : regionOf a = .ppuRegs := by
  unfold regionOf
  rw [if_neg (by simp [BitVec.lt_def]; omega), if_pos (by simp [BitVec.lt_def]; omega)]

/-- The register is selected by the address modulo 8 (R74). -/
theorem ppuRegOf_eq_offset (a : Addr) : ppuRegOf a = ppuRegOf (BitVec.ofNat 16 (a.toNat % 8)) := by
  have h : a &&& 7#16 = BitVec.ofNat 16 (a.toNat % 8) &&& 7#16 := by
    apply BitVec.eq_of_toNat_eq
    simp only [BitVec.toNat_and, BitVec.toNat_ofNat, show 7 % 2 ^ 16 = 2 ^ 3 - 1 from rfl, Nat.and_two_pow_sub_one_eq_mod]
    omega
  rw [ppuRegOf, ppuRegOf, h]

theorem ppuRegOf_of_offset {a : Addr} {k : Nat} (h : a.toNat % 8 = k) : ppuRegOf a = ppuRegOf (BitVec.ofNat 16 k) := by
  rw [ppuRegOf_eq_offset, h]

theorem memRead_ppuRegs {a : Addr} (s : State) (h0 : 0x2000 ≤ a.toNat) (h1 : a.toNat < 0x4000) :
    memRead a s = (ppuRegValue (ppuRegOf a) s, ppuRegReadEffect (ppuRegOf a) s) := by
  simp only [memRead, busValue, busReadEffect, regionOf_ppuRegs h0 h1]

theorem memWrite_ppuRegs {a : Addr} (d : Byte) (s : State) (h0 : 0x2000 ≤ a.toNat) (h1 : a.toNat < 0x4000) :
    memWrite a d s = ppuRegWrite (ppuRegOf a) d s := by
  simp only [memWrite, regionOf_ppuRegs h0 h1]

/-- A read of PPUSTATUS (R289). -/
theorem memRead_status {a : Addr} (s : State) (h0 : 0x2000 ≤ a.toNat) (h1 : a.toNat < 0x4000) (h : a.toNat % 8 = 2) :
    memRead a s = ((s.ppu.status &&& 0xE0#8) ||| (s.ppu.buffer &&& 0x1F#8),
      { s with ppu := { s.ppu with status := s.ppu.status &&& 0x7F#8, w := false } }) := by
  rw [memRead_ppuRegs s h0 h1, ppuRegOf_of_offset h]
  rfl

/-- The high three bits of a byte. -/
theorem and_E0_toNat : ∀ u : Byte, (u &&& 0xE0#8).toNat = 2 ^ 5 * (u.toNat / 32) := by decide

/-- The status bits over the buffer bits, in numbers (R289). -/
theorem status_over_buffer_toNat (u v : Byte) :
    ((u &&& 0xE0#8) ||| (v &&& 0x1F#8)).toNat = u.toNat / 32 * 32 + v.toNat % 32 := by
  have hv : (v &&& 0x1F#8).toNat = v.toNat % 2 ^ 5 := by
    rw [BitVec.toNat_and]
    exact Nat.and_two_pow_sub_one_eq_mod v.toNat 5
  rw [BitVec.toNat_or, and_E0_toNat, hv, ← Nat.two_pow_add_eq_or_of_lt (Nat.mod_lt _ (by decide))]
  omega

/-- VBL cleared, in numbers. -/
theorem and_7F_eq (u : Byte) : u &&& 0x7F#8 = BitVec.ofNat 8 (u.toNat % 128) := by
  have h : (u &&& 0x7F#8).toNat = u.toNat % 2 ^ 7 := by
    rw [BitVec.toNat_and]
    exact Nat.and_two_pow_sub_one_eq_mod u.toNat 7
  apply BitVec.eq_of_toNat_eq
  rw [h, BitVec.toNat_ofNat]
  omega

/-- Settles O51: the register by its offset, then what it answers. -/
theorem ppuStatusReadAndStubs : Obligations.PpuStatusReadAndStubs := by
  refine ⟨fun s a h0 h1 hoff => ?_, fun s a d h0 h1 => ⟨fun hoff => ?_, fun h2 h7 => ?_, fun hoff hs => ?_⟩⟩
  · rw [memRead_status s h0 h1 hoff, status_over_buffer_toNat, and_7F_eq]
    exact ⟨rfl, rfl⟩
  · rw [memWrite_ppuRegs d s h0 h1]
    obtain hoff | hoff | hoff := hoff <;> rw [ppuRegOf_of_offset hoff] <;> rfl
  · have hoff : a.toNat % 8 = 0 ∨ a.toNat % 8 = 1 ∨ a.toNat % 8 = 3 ∨ a.toNat % 8 = 4 ∨ a.toNat % 8 = 5 ∨
        a.toNat % 8 = 6 := by omega
    rw [memRead_ppuRegs s h0 h1]
    obtain h | h | h | h | h | h := hoff <;> rw [ppuRegOf_of_offset h] <;> rfl
  · obtain ⟨-, -, -, -, -, hstatus, -⟩ := s.wf_iff.1 hs
    have h6 : s.ppu.status[6] = false := by simpa using congrArg (·[6]) hstatus
    have h5 : s.ppu.status[5] = false := by simpa using congrArg (·[5]) hstatus
    rw [memRead_status s h0 h1 hoff]
    simp [h6, h5]

end Sys2Proof.Machine
end

section
/-! PROOFS. The CPU bus (O46, O47, O48, O49): the row of R73's table an address falls in, what each row answers, and
what a write leaves of the bytes read elsewhere. -/

namespace Sys2Proof.Machine

/-! ### The rows of the table in numbers (R73) -/

theorem regionOf_ram_iff (a : Addr) : regionOf a = .ram ↔ a.toNat < 0x2000 := by
  unfold regionOf
  simp only [BitVec.lt_def, BitVec.toNat_ofNat]
  split_ifs <;> simp <;> omega

theorem regionOf_prgRom_iff (a : Addr) : regionOf a = .prgRom ↔ 0x8000 ≤ a.toNat := by
  unfold regionOf
  simp only [BitVec.lt_def, ← BitVec.toNat_inj, BitVec.toNat_ofNat]
  split_ifs <;> simp <;> omega

theorem regionOf_controller1 {a : Addr} (h : a.toNat = 0x4016) : regionOf a = .controller1 := by
  rw [show a = 0x4016#16 from BitVec.eq_of_toNat_eq h]
  decide

theorem regionOf_controller2 {a : Addr} (h : a.toNat = 0x4017) : regionOf a = .controller2 := by
  rw [show a = 0x4017#16 from BitVec.eq_of_toNat_eq h]
  decide

/-- The stub windows around the two controller ports. -/
theorem regionOf_stub {a : Addr} (h0 : 0x4000 ≤ a.toNat) (h1 : a.toNat < 0x8000) (h2 : a.toNat ≠ 0x4016)
    (h3 : a.toNat ≠ 0x4017) : regionOf a = .apu ∨ regionOf a = .testMode ∨ regionOf a = .expansion := by
  unfold regionOf
  simp only [BitVec.lt_def, ← BitVec.toNat_inj, BitVec.toNat_ofNat]
  split_ifs <;> simp <;> omega

theorem ramIndex_eq (a : Addr) : ramIndex a = a.toNat % 2048 := by
  rw [ramIndex, BitVec.toNat_and]
  exact Nat.and_two_pow_sub_one_eq_mod a.toNat 11

/-- The PRG mask in numbers: the address modulo the size of the banks (R70). -/
theorem mapPrgRead_eq (b : PrgBanks) (a : Addr) : mapPrgRead b a = a.toNat % b.size := by
  cases b <;> simp only [mapPrgRead, BitVec.toNat_and]
  case one => exact Nat.and_two_pow_sub_one_eq_mod a.toNat 14
  case two => exact Nat.and_two_pow_sub_one_eq_mod a.toNat 15

/-! ### What each row answers -/

theorem memRead_of_plain {a : Addr} (s : State)
    (h : regionOf a ≠ .ppuRegs ∧ regionOf a ≠ .controller1 ∧ regionOf a ≠ .controller2) :
    memRead a s = (busValue a s, s) := by
  rw [memRead, busReadEffect_of_plain s h]

theorem memRead_ram {a : Addr} (s : State) (h : a.toNat < 0x2000) : memRead a s = (s.ram.read (a.toNat % 2048), s) := by
  have hr := (regionOf_ram_iff a).2 h
  rw [memRead_of_plain s (by simp [hr]), busValue, hr, ramIndex_eq]

theorem memWrite_to_ram {a : Addr} (v : Byte) (s : State) (h : a.toNat < 0x2000) :
    memWrite a v s = { s with ram := s.ram.write (a.toNat % 2048) v } := by
  rw [memWrite_of_ram v s ((regionOf_ram_iff a).2 h), ramIndex_eq]

theorem memRead_stub {a : Addr} (s : State) (h0 : 0x4000 ≤ a.toNat) (h1 : a.toNat < 0x8000) (h2 : a.toNat ≠ 0x4016)
    (h3 : a.toNat ≠ 0x4017) : memRead a s = (0#8, s) := by
  obtain h | h | h := regionOf_stub h0 h1 h2 h3 <;> simp only [memRead, busValue, busReadEffect, h]

/-- Writes to the stubs and to $4017 are ignored (D22, D37). -/
theorem memWrite_ignored {a : Addr} (v : Byte) (s : State) (h0 : 0x4000 ≤ a.toNat) (h1 : a.toNat < 0x8000)
    (h2 : a.toNat ≠ 0x4016) : memWrite a v s = s := by
  by_cases h3 : a.toNat = 0x4017
  · simp only [memWrite, regionOf_controller2 h3]
  · obtain h | h | h := regionOf_stub h0 h1 h2 h3 <;> simp only [memWrite, h]

theorem memRead_controller1 {a : Addr} (s : State) (h : a.toNat = 0x4016) :
    memRead a s = (s.ctl0.shift &&& 1#8, { s with ctl0 := { s.ctl0 with shift := s.ctl0.shift >>> 1 } }) := by
  simp only [memRead, busValue, busReadEffect, regionOf_controller1 h, ctlValue, ctlShift]

theorem memRead_controller2 {a : Addr} (s : State) (h : a.toNat = 0x4017) :
    memRead a s = (s.ctl1.shift &&& 1#8, { s with ctl1 := { s.ctl1 with shift := s.ctl1.shift >>> 1 } }) := by
  simp only [memRead, busValue, busReadEffect, regionOf_controller2 h, ctlValue, ctlShift]

theorem memRead_prgRom {a : Addr} (s : State) (h : 0x8000 ≤ a.toNat) :
    memRead a s = (s.cart.prg.read (a.toNat % s.cart.prgBanks.size), s) := by
  have hr := (regionOf_prgRom_iff a).2 h
  rw [memRead_of_plain s (by simp [hr]), busValue, hr, ← mapPrgRead_eq]
  rfl

theorem memWrite_prgRom {a : Addr} (v : Byte) (s : State) (h : 0x8000 ≤ a.toNat) :
    memWrite a v s = raiseRomWrite .cpu a v s := by
  simp only [memWrite, (regionOf_prgRom_iff a).2 h, mapPrgWrite]

/-- Settles O46: one row of the table after another. -/
theorem cpuBusDecoder : Obligations.CpuBusDecoder := by
  refine fun s a v => ⟨fun h => ⟨memRead_ram s h, memWrite_to_ram v s h⟩, fun ⟨h0, h1⟩ => ⟨?_, ?_⟩,
    fun h => ⟨memRead_controller1 s h, ?_⟩, fun h => ⟨memRead_controller2 s h, ?_⟩,
    fun ⟨h0, h1, h2, h3⟩ => ⟨memRead_stub s h0 h1 h2 h3, memWrite_ignored v s h0 h1 h2⟩,
    fun h => ⟨?_, memWrite_prgRom v s h⟩⟩
  · rw [memRead_ppuRegs s h0 h1, ← ppuRegOf_eq_offset]
  · rw [memWrite_ppuRegs v s h0 h1, ← ppuRegOf_eq_offset]
  · simp only [memWrite, regionOf_controller1 h, ctlStrobe]
  · exact memWrite_ignored v s (by omega) (by omega) (by omega)
  · rw [memRead_prgRom s h]
    cases s.cart.prgBanks <;> rfl

/-! ### Bytes read after a write (R76) -/

/-- RAM is read through its own window only. -/
theorem busValue_of_other_ram {b : Addr} (m : Memory) (s : State) (h : regionOf b ≠ .ram) :
    busValue b { s with ram := m } = busValue b s := by
  unfold busValue
  split
  case h_1 hr => exact absurd hr h
  case h_2 => cases ppuRegOf b <;> rfl
  all_goals rfl

/-- A raised ROM write changes no byte the CPU bus reads. -/
theorem busValue_raiseRomWrite (b : Addr) (u : Bus) (a : Addr) (v : Byte) (s : State) :
    busValue b (raiseRomWrite u a v s) = busValue b s := by
  unfold raiseRomWrite recordFault
  split <;> [skip; split] <;> rfl

/-- Settles O47: RAM is one canonical memory, and a write elsewhere leaves RAM and cartridge, or all devices, alone. -/
theorem ramReadAfterWrite : Obligations.RamReadAfterWrite := by
  refine ⟨fun s a b v hw ha hb => ?_, fun s a b v ha hb => ?_, fun s a b v ha hb => ?_, fun s a b v ha h1 => ?_⟩
  · have hread : ∀ t : State, busValue b t = t.ram.read (b.toNat % 2048) := fun t => congrArg Prod.fst (memRead_ram t hb)
    rw [hread, hread, memWrite_to_ram v s ha, Memory.read_write hw]
    simp only [eq_comm]
  · rw [memWrite_to_ram v s ha, busValue_of_other_ram]
    rw [Ne, regionOf_ram_iff]
    omega
  · have hr : regionOf a ≠ .ram := by rw [Ne, regionOf_ram_iff]; omega
    exact busValue_plain_congr (by rw [memWrite_ram, if_neg hr]) (memWrite_cart a v s) hb
  · by_cases h8 : a.toNat < 0x8000
    · rw [memWrite_ignored v s ha h8 h1]
    · rw [memWrite_prgRom v s (by omega), busValue_raiseRomWrite]

/-! ### Effects of reads (R79) -/

/-- A read of PPUDATA refills the buffer and steps `v` (R293). -/
theorem memRead_data {a : Addr} (s : State) (h0 : 0x2000 ≤ a.toNat) (h1 : a.toNat < 0x4000) (h : a.toNat % 8 = 7) :
    (memRead a s).2 = { s with ppu := { s.ppu with buffer := ppuRead s.ppu.dataAddr s, v := s.ppu.nextV } } := by
  rw [memRead_ppuRegs s h0 h1, ppuRegOf_of_offset h]
  rfl

/-- Reads but those of PPUSTATUS, PPUDATA and the controller ports leave the state as it is (R79, D19). -/
theorem memRead_keeps_state {a : Addr} (s : State)
    (hppu : ¬ (0x2000 ≤ a.toNat ∧ a.toNat < 0x4000 ∧ (a.toNat % 8 = 2 ∨ a.toNat % 8 = 7)))
    (hc1 : a.toNat ≠ 0x4016) (hc2 : a.toNat ≠ 0x4017) : (memRead a s).2 = s := by
  by_cases hram : a.toNat < 0x2000
  · rw [memRead_ram s hram]
  by_cases hwin : a.toNat < 0x4000
  · obtain ⟨-, hstub, -⟩ := ppuStatusReadAndStubs.2 s a 0 (by omega) hwin
    rw [hstub (by omega) (by omega)]
  by_cases hrom : a.toNat < 0x8000
  · rw [memRead_stub s (by omega) hrom hc1 hc2]
  · rw [memRead_prgRom s (by omega)]

/-- Settles O48: what each device's read writes, and what the ignored writes leave. -/
theorem readsChangeOnlyDevices : Obligations.ReadsChangeOnlyDevices := by
  refine ⟨fun s a => memRead_keeps_state s, fun s a h0 h1 => ⟨fun h => ?_, fun h => ?_⟩,
    fun s a => ⟨fun h => ?_, fun h => ?_⟩, fun s a v h => ?_, fun s a v => ?_, fun s a => ⟨_, rfl⟩⟩
  · exact ⟨_, _, congrArg Prod.snd (memRead_status s h0 h1 h)⟩
  · exact ⟨_, _, memRead_data s h0 h1 h⟩
  · exact ⟨_, congrArg Prod.snd (memRead_controller1 s h)⟩
  · exact ⟨_, congrArg Prod.snd (memRead_controller2 s h)⟩
  · obtain ⟨h0, h1, h2⟩ | ⟨h0, h1, hoff⟩ := h
    · exact memWrite_ignored v s h0 h1 h2
    · obtain ⟨hignored, -, -⟩ := ppuStatusReadAndStubs.2 s a v h0 h1
      exact hignored hoff
  · simp [SameRegisters]

/-! ### ROM writes (R72, R267) -/

/-- "if it is still empty" (R10), in one record. -/
theorem recordFault_eq (f : Fault) (s : State) : recordFault f s = { s with fault := some (s.fault.getD f) } := by
  unfold recordFault
  split
  next h => rw [h, Option.getD_none]
  next h => rw [h, Option.getD_some, ← h]

theorem raiseRomWrite_of_ignore {s : State} (u : Bus) (a : Addr) (v : Byte) (h : s.params.romWrite = .ignore) :
    raiseRomWrite u a v s = { s with romWriteSeen := true } := by
  simp only [raiseRomWrite, h]

theorem raiseRomWrite_of_fault {s : State} (u : Bus) (a : Addr) (v : Byte) (h : s.params.romWrite = .fault) :
    raiseRomWrite u a v s = { s with fault := some (s.fault.getD (.romWrite u a v)), halted := true } := by
  simp only [raiseRomWrite, h, recordFault_eq]

theorem ppuBusAddr_eq (a : Addr) : ppuBusAddr a = BitVec.ofNat 16 (a.toNat % 16384) := by
  rw [← ppuBusAddr_toNat, BitVec.ofNat_toNat, BitVec.setWidth_eq]

/-- A write to a pattern address is a write to CHR ROM (R72, R77). -/
theorem ppuWrite_pattern {a : Addr} (v : Byte) (s : State) (h : a.toNat % 16384 < 0x2000) :
    ppuWrite a v s = raiseRomWrite .ppu (BitVec.ofNat 16 (a.toNat % 16384)) v s := by
  rw [ppuWrite, (ppuRegion_pattern_iff a).2 h, ← ppuBusAddr_eq]
  rfl

/-- Settles O49: on either bus a ROM write is `raiseRomWrite`, which follows the policy. -/
theorem romWritesFollowThePolicy : Obligations.RomWritesFollowThePolicy := by
  refine fun s a v => ⟨fun h => ?_, fun h => ?_, step_of_halted, regionOf_stackAddr⟩
  · rw [memWrite_prgRom v s h]
    exact ⟨raiseRomWrite_of_ignore _ _ _, raiseRomWrite_of_fault _ _ _⟩
  · rw [ppuWrite_pattern v s h]
    exact ⟨raiseRomWrite_of_ignore _ _ _, raiseRomWrite_of_fault _ _ _⟩

end Sys2Proof.Machine
end

section
/-! PROOFS. The PPU bus (O50): nametable and palette indexes in numbers, and what a write leaves of the bytes read
elsewhere. -/

namespace Sys2Proof.Machine

/-- The nametable byte of a PPU-bus address in numbers (R64). -/
def nametableByte (m : Mirroring) (n : Nat) : Nat :=
  n % 1024 + 1024 * (match m with | .horizontal => n / 2048 % 2 | .vertical => n / 1024 % 2)

/-- The palette entry of a PPU-bus address in numbers (R65). -/
def paletteEntry (n : Nat) : Nat := if n % 32 / 16 = 1 ∧ n % 4 = 0 then n % 16 else n % 32

/-- The nametable index depends on the low 12 bits alone. -/
theorem vramIndex_ppuBusAddr (m : Mirroring) (a : Addr) : vramIndex m (ppuBusAddr a) = nametableByte m a.toNat := by
  rw [vramIndex_eq, ppuBusAddr_toNat]
  cases m <;> dsimp only [nametableByte] <;> omega

/-- The palette index in arithmetic: $10, $14, $18 and $1C are the multiples of 4 from 16 (R65). -/
theorem palIndex_eq (a : Addr) : palIndex a = paletteEntry a.toNat := by
  have h5 : (a &&& 0x1F#16).toNat = a.toNat % 32 := by
    rw [BitVec.toNat_and]
    exact Nat.and_two_pow_sub_one_eq_mod a.toNat 5
  have h4 : (a &&& 0x1F#16 &&& 0x0F#16).toNat = a.toNat % 32 % 16 := by
    rw [BitVec.toNat_and, h5]
    exact Nat.and_two_pow_sub_one_eq_mod _ 4
  simp only [palIndex, paletteEntry, ← BitVec.toNat_inj, h5, h4, BitVec.toNat_ofNat]
  split_ifs <;> omega

theorem palIndex_ppuBusAddr (a : Addr) : palIndex (ppuBusAddr a) = paletteEntry a.toNat := by
  rw [palIndex_eq, ppuBusAddr_toNat, paletteEntry, paletteEntry]
  split_ifs <;> omega

section
variable {a : Addr} (s : State)

theorem ppuRead_nametable (h : ppuRegion (ppuBusAddr a) = .nametable) :
    ppuRead a s = s.vram.read (nametableByte s.cart.mirror a.toNat) := by
  rw [ppuRead, h, ← vramIndex_ppuBusAddr]
  rfl

theorem ppuRead_palette (h : ppuRegion (ppuBusAddr a) = .palette) :
    ppuRead a s = s.pal.read (paletteEntry a.toNat) := by
  rw [ppuRead, h, ← palIndex_ppuBusAddr]
  rfl

theorem ppuWrite_nametable (v : Byte) (h : ppuRegion (ppuBusAddr a) = .nametable) :
    ppuWrite a v s = { s with vram := s.vram.write (nametableByte s.cart.mirror a.toNat) v } := by
  rw [ppuWrite, h, ← vramIndex_ppuBusAddr]

theorem ppuWrite_palette (v : Byte) (h : ppuRegion (ppuBusAddr a) = .palette) :
    ppuWrite a v s = { s with pal := s.pal.write (paletteEntry a.toNat) v } := by
  rw [ppuWrite, h, ← palIndex_ppuBusAddr]

/-- VRAM is read through the nametable rows only. -/
theorem ppuRead_of_other_vram (m : Memory) (h : ppuRegion (ppuBusAddr a) ≠ .nametable) :
    ppuRead a { s with vram := m } = ppuRead a s := by
  unfold ppuRead
  split
  case h_2 hr => exact absurd hr h
  all_goals rfl

/-- Palette RAM is read through the palette row only. -/
theorem ppuRead_of_other_pal (m : Memory) (h : ppuRegion (ppuBusAddr a) ≠ .palette) :
    ppuRead a { s with pal := m } = ppuRead a s := by
  unfold ppuRead
  split
  case h_3 hr => exact absurd hr h
  all_goals rfl

end

/-- Settles O50: a write stores at the index of its address, which is read through its own rows only. -/
theorem vramAndPaletteAliases : Obligations.VramAndPaletteAliases := by
  refine ⟨fun s a b v hw h0 h1 => ⟨nametableByte s.cart.mirror, rfl, ?_⟩,
    fun s a b v hw h0 => ⟨paletteEntry, rfl, ?_⟩⟩
  · have ha := (ppuRegion_nametable_iff a).2 ⟨h0, h1⟩
    refine ⟨ppuRead_nametable s ha, ?_⟩
    rw [ppuWrite_nametable s v ha]
    simp only [← and_assoc, ← ppuRegion_nametable_iff]
    by_cases hb : ppuRegion (ppuBusAddr b) = .nametable
    · simp only [ppuRead_nametable _ hb, Memory.read_write hw, hb, true_and, eq_comm]
    · rw [ppuRead_of_other_vram s _ hb, if_neg fun h => hb h.1]
  · have ha := (ppuRegion_palette_iff a).2 h0
    refine ⟨ppuRead_palette s ha, ?_⟩
    rw [ppuWrite_palette s v ha]
    simp only [← ppuRegion_palette_iff]
    by_cases hb : ppuRegion (ppuBusAddr b) = .palette
    · simp only [ppuRead_palette _ hb, Memory.read_write hw, hb, true_and, eq_comm]
    · rw [ppuRead_of_other_pal s _ hb, if_neg fun h => hb h.1]

end Sys2Proof.Machine
end

section
/-! PROOFS. Construction (O60): the images that are accepted, and that every other one is refused. -/

namespace Sys2Proof.Machine

/-- The mirroring bit of an image for a mirroring mode. -/
def Mirroring.asImage : Mirroring → ImageMirroring
  | .horizontal => .horizontal
  | .vertical => .vertical

theorem exists_asImage {m : ImageMirroring} (h : m ≠ .fourScreen) : ∃ k : Mirroring, m = k.asImage := by
  cases m with
  | horizontal => exact ⟨.horizontal, rfl⟩
  | vertical => exact ⟨.vertical, rfl⟩
  | fourScreen => exact absurd rfl h

theorem Mirroring.asImage_ne_fourScreen (k : Mirroring) : k.asImage ≠ .fourScreen := by
  cases k <;> decide

theorem exists_bankSize {p : Nat} (h : p = 1 ∨ p = 2) : ∃ b : PrgBanks, 16384 * p = b.size := by
  obtain rfl | rfl := h
  · exact ⟨.one, rfl⟩
  · exact ⟨.two, rfl⟩

/-- The bank counts that are accepted (R68, D27). -/
theorem acceptedBanks_eq_some_iff {p c : Nat} {b : PrgBanks} :
    acceptedBanks p c = some b ↔ c = 1 ∧ 16384 * p = b.size := by
  unfold acceptedBanks
  cases b <;> simp only [PrgBanks.size] <;> split_ifs <;> simp <;> omega

/-- The images R68 accepts. -/
theorem checkImage_eq_accepted_iff {img : CartridgeImage} {b : PrgBanks} {m : Mirroring} :
    checkImage img = .accepted b m ↔ img.mapper = 0 ∧ img.trainer = false ∧ img.mirroring = m.asImage ∧
      acceptedBanks img.prgBanks img.chrBanks = some b ∧ img.prg.length = b.size ∧ img.chr.length = chrSize := by
  constructor
  · intro h
    unfold checkImage at h
    split_ifs at h with hmapper htrainer
    split at h
    case h_1 => cases h
    case h_2 => cases h
    all_goals
      rename_i hmirror hbanks
      split_ifs at h with hsizes
      cases h
      exact ⟨not_not.1 hmapper, Bool.eq_false_of_not_eq_true htrainer, hmirror, hbanks, hsizes⟩
  · rintro ⟨hmapper, htrainer, hmirror, hbanks, hprg, hchr⟩
    cases m <;> simp [checkImage, hmapper, htrainer, hmirror, hbanks, hprg, hchr, Mirroring.asImage]

/-- An accepted image at a valid reset position is built (R308). -/
theorem construct_of_accepted {img : CartridgeImage} {params : Params} {b : PrgBanks} {m : Mirroring}
    (h : checkImage img = .accepted b m) (hv : validPosition params.resetScanline params.resetDot = true) :
    construct img params = .next (State.constructed (cartridgeOf img b m) params) := by
  rw [construct, h]
  exact if_pos hv

/-- Construction answers a state or a refusal. -/
theorem construct_next_or_refused (img : CartridgeImage) (params : Params) :
    (∃ s, construct img params = .next s) ∨ ∃ r, construct img params = .refused r := by
  unfold construct
  split
  · exact .inr ⟨_, rfl⟩
  · split
    · exact .inl ⟨_, rfl⟩
    · exact .inr ⟨_, rfl⟩

/-- Settles O60: `checkImage` accepts exactly these images, and a construction that does not succeed is refused. -/
theorem constructionAcceptsNromOnly : Obligations.ConstructionAcceptsNromOnly := by
  refine fun img params => ⟨fun ⟨hmapper, htrainer, hmirror, hprg, hchr, hprgLen, hchrLen, hv⟩ => ?_, fun hnot =>
    (construct_next_or_refused img params).resolve_left fun ⟨s, hs⟩ => hnot ?_⟩
  · obtain ⟨m, hm⟩ := exists_asImage hmirror
    obtain ⟨b, hb⟩ := exists_bankSize hprg
    have hcheck : checkImage img = .accepted b m := checkImage_eq_accepted_iff.2
      ⟨hmapper, htrainer, hm, acceptedBanks_eq_some_iff.2 ⟨hchr, hb⟩, hprgLen.trans hb, hchrLen⟩
    refine ⟨_, construct_of_accepted hcheck hv, Memory.read_ofBytes _, Memory.read_ofBytes _, ?_, ?_, ?_⟩
    · change b = .one ↔ _
      cases b <;> simp [PrgBanks.size] at hb ⊢ <;> omega
    · change m = .horizontal ↔ _
      rw [hm]
      cases m <;> decide
    · simp [State.constructed]
  · obtain ⟨b, m, hcheck, hv, -⟩ := construct_next hs
    obtain ⟨hmapper, htrainer, hm, hbanks, hprgLen, hchrLen⟩ := checkImage_eq_accepted_iff.1 hcheck
    obtain ⟨hchr, hb⟩ := acceptedBanks_eq_some_iff.1 hbanks
    have hprg : img.prgBanks = 1 ∨ img.prgBanks = 2 := by
      cases b <;> simp only [PrgBanks.size] at hb <;> omega
    exact ⟨hmapper, htrainer, hm ▸ m.asImage_ne_fourScreen, hprg, hchr, hprgLen.trans hb.symm, hchrLen, hv⟩

end Sys2Proof.Machine
end

section
/-! PROOFS. Words written out from the encodings (O27). -/

namespace Sys2Proof.Machine

/-- Settles O27: each word has the length of its opcode, and its operand is little-endian or a displacement. -/
theorem specWordsDecode : Obligations.SpecWordsDecode :=
  ⟨decode_of_length_three rfl 0x19 0x80 [], decode_of_length_three rfl 0x01 0x00 [], decode_of_length_two rfl 0x80 [],
    decode_of_length_two rfl 0xFC [], decode_of_length_one rfl [], decode_of_length_three rfl 0xFF 0x10 [],
    decode_of_length_two rfl 0x10 [], decode_of_length_one rfl []⟩

end Sys2Proof.Machine
end

section
/-! PROOFS. The encoding (O23, O24, O25, O26): the table and the encoder agree in both directions, and the decoder
reads as many bytes as the first says. -/

namespace Sys2Proof.Machine

/-! ### Operands and their bytes (R60, R112) -/

theorem loByte_addrOf (hi lo : Byte) : loByte (addrOf hi lo) = lo := by
  rw [← BitVec.toNat_inj, loByte_toNat, addrOf_toNat]
  omega

theorem hiByte_addrOf (hi lo : Byte) : hiByte (addrOf hi lo) = hi := by
  rw [← BitVec.toNat_inj, hiByte_toNat, addrOf_toNat]
  omega

theorem byteOfDisp_dispOfByte (b : Byte) : byteOfDisp (dispOfByte b) = b := BitVec.ofInt_toInt

theorem dispOfByte_byteOfDisp_iff (d : Int) : dispOfByte (byteOfDisp d) = d ↔ displacementFits d = true := by
  simp only [displacementFits, Bool.and_eq_true, decide_eq_true_eq]
  constructor
  · intro h
    rw [← h]
    exact ⟨BitVec.le_toInt _, Int.le_of_lt_add_one BitVec.toInt_lt⟩
  · rintro ⟨hlo, hhi⟩
    exact (BitVec.toInt_ofInt ..).trans (Int.bmod_eq_of_le (by omega) (by omega))

/-! ### The table -/

theorem length_opTable : opTable.length = 256 := by
  simp only [opTable, List.length_append]
  rfl

/-- The instructions that a table entry builds have this opcode byte and then the operand bytes of the mode (R111). -/
def Encodes (op : Byte) (e : OpEntry) : Prop :=
  ∀ b1 b2, encode (e.build b1 b2) = [op, b1, b2].take e.mode.length

section
variable {op : Byte} {m : Mnemonic} {mode : Mode} {n : Nat}

theorem encodes_entry0_iff {i : Instr} :
    Encodes op (entry0 m mode n i) ↔ ∀ b1 b2, encode i = [op, b1, b2].take mode.length := Iff.rfl

theorem encodes_illegalEntry_iff {i : Instr} : Encodes op (illegalEntry i) ↔ encode i = [op] :=
  ⟨fun h => h 0 0, fun h _ _ => h⟩

theorem encodes_entry1_iff {mk : Byte → Instr} :
    Encodes op (entry1 m mode n mk) ↔ ∀ b b2, encode (mk b) = [op, b, b2].take mode.length := Iff.rfl

theorem encodes_entry2_iff {mk : Addr → Instr} :
    Encodes op (entry2 m mode n mk) ↔ ∀ w, encode (mk w) = [op, loByte w, hiByte w].take mode.length := by
  refine ⟨fun h w => ?_, fun h lo hi => ?_⟩
  · have := h (loByte w) (hiByte w)
    simpa only [entry2, addrOf_hiByte_loByte] using this
  · have := h (addrOf hi lo)
    rwa [loByte_addrOf, hiByte_addrOf] at this

theorem encodes_entryB_iff {mk : Int → Instr} :
    Encodes op (entryB m mk) ↔ ∀ d, displacementFits d = true → encode (mk d) = [op, byteOfDisp d] := by
  refine ⟨fun h d hd => ?_, fun h b b2 => ?_⟩
  · have := h (byteOfDisp d) 0
    simp only [entryB, (dispOfByte_byteOfDisp_iff d).2 hd] at this
    exact this
  · have := h (dispOfByte b) ((dispOfByte_byteOfDisp_iff _).1 (by rw [byteOfDisp_dispOfByte]))
    rwa [byteOfDisp_dispOfByte] at this

theorem encodes_unofficial_iff {e : OpEntry} : Encodes op (unofficial e) ↔ Encodes op e := Iff.rfl

end

/-- The entries of a part of the table that begins at this byte are those of the bytes their place says. -/
def EncodeFrom : Nat → List OpEntry → Prop
  | _, [] => True
  | k, e :: es => Encodes (BitVec.ofNat 8 k) e ∧ EncodeFrom (k + 1) es

theorem EncodeFrom.append {k n : Nat} {es fs : List OpEntry} (hes : EncodeFrom k es) (hn : es.length = n)
    (hfs : EncodeFrom (k + n) fs) : EncodeFrom k (es ++ fs) := by
  subst hn
  induction es generalizing k with
  | nil => exact hfs
  | cons e es ih =>
    obtain ⟨he, hes⟩ := hes
    exact ⟨he, ih hes (by rwa [Nat.add_assoc, Nat.add_comm 1])⟩

theorem EncodeFrom.getElem {k : Nat} {es : List OpEntry} (hes : EncodeFrom k es) {j : Nat} (hj : j < es.length) :
    Encodes (BitVec.ofNat 8 (k + j)) es[j] := by
  induction es generalizing k j with
  | nil => cases hj
  | cons e es ih =>
    obtain ⟨he, hes⟩ := hes
    cases j with
    | zero => exact he
    | succ j => simpa [Nat.add_assoc, Nat.add_comm 1] using ih hes (Nat.lt_of_succ_lt_succ hj)

/-- By the kind of each entry, what is left to see is how the encoder writes its instruction. -/
theorem opRows_encodeFrom :
    EncodeFrom 0x00 opRow0 ∧ EncodeFrom 0x10 opRow1 ∧ EncodeFrom 0x20 opRow2 ∧ EncodeFrom 0x30 opRow3 ∧
    EncodeFrom 0x40 opRow4 ∧ EncodeFrom 0x50 opRow5 ∧ EncodeFrom 0x60 opRow6 ∧ EncodeFrom 0x70 opRow7 ∧
    EncodeFrom 0x80 opRow8 ∧ EncodeFrom 0x90 opRow9 ∧ EncodeFrom 0xA0 opRowA ∧ EncodeFrom 0xB0 opRowB ∧
    EncodeFrom 0xC0 opRowC ∧ EncodeFrom 0xD0 opRowD ∧ EncodeFrom 0xE0 opRowE ∧ EncodeFrom 0xF0 opRowF := by
  simp only [EncodeFrom, opRow0, opRow1, opRow2, opRow3, opRow4, opRow5, opRow6, opRow7, opRow8, opRow9, opRowA,
    opRowB, opRowC, opRowD, opRowE, opRowF, encodes_entry0_iff, encodes_entry1_iff, encodes_entry2_iff,
    encodes_entryB_iff, encodes_illegalEntry_iff, encodes_unofficial_iff, and_true]
  and_intros <;> intros <;> rfl

theorem opTable_encodeFrom : EncodeFrom 0 opTable := by
  obtain ⟨h0, h1, h2, h3, h4, h5, h6, h7, h8, h9, hA, hB, hC, hD, hE, hF⟩ := opRows_encodeFrom
  simp only [opTable, List.append_assoc]
  exact h0.append rfl <| h1.append rfl <| h2.append rfl <| h3.append rfl <| h4.append rfl <| h5.append rfl <|
    h6.append rfl <| h7.append rfl <| h8.append rfl <| h9.append rfl <| hA.append rfl <| hB.append rfl <|
    hC.append rfl <| hD.append rfl <| hE.append rfl hF

theorem entryOf_encodes (op : Byte) : Encodes op (entryOf op) := by
  have h := opTable_encodeFrom.getElem (length_opTable ▸ op.isLt : op.toNat < opTable.length)
  rwa [Nat.zero_add, BitVec.ofNat_toNat, BitVec.setWidth_eq, ← List.getD_eq_getElem (d := illegalEntry .xxx02)] at h

theorem encode_instrOf (op b1 b2 : Byte) : encode (instrOf op b1 b2) = [op, b1, b2].take (instrLength op) :=
  entryOf_encodes op b1 b2

/-! ### The decoder -/

theorem instrLength_pos (op : Byte) : 1 ≤ instrLength op := by
  unfold instrLength
  cases (entryOf op).mode <;> decide

theorem instrLength_le_three (op : Byte) : instrLength op ≤ 3 := by
  unfold instrLength
  cases (entryOf op).mode <;> decide

/-- The instruction of an opcode byte and the operand bytes its length asks for; the absent ones count as 0. -/
def instrOfBytes (op : Byte) (operands : List Byte) : Instr := instrOf op (operands.getD 0 0) (operands.getD 1 0)

/-- The decoder reads as many bytes as the first says, and leaves the rest (R110). -/
theorem decode_append {op : Byte} {operands : List Byte} (h : operands.length + 1 = instrLength op) (rest : List Byte) :
    decode (op :: operands ++ rest) = .instr (instrOfBytes op operands) rest := by
  have hle := instrLength_le_three op
  match operands with
  | [] => exact decode_of_length_one h.symm rest
  | [b] => exact decode_of_length_two h.symm b rest
  | [b1, b2] => exact decode_of_length_three h.symm b1 b2 rest
  | _ :: _ :: _ :: _ => simp only [List.length_cons] at h; omega

theorem decode_of_truncated {op : Byte} {rest : List Byte} (h : rest.length + 1 < instrLength op) :
    decode (op :: rest) = .truncated op := by
  have hle := instrLength_le_three op
  match rest with
  | [] =>
    obtain h2 | h3 : instrLength op = 2 ∨ instrLength op = 3 := by simp only [List.length_nil] at h; omega
    · simp [decode, h2]
    · simp [decode, h3]
  | [b] =>
    have h3 : instrLength op = 3 := by simp only [List.length_cons, List.length_nil] at h; omega
    simp [decode, h3]
  | _ :: _ :: _ => simp only [List.length_cons] at h; omega

/-- Bytes that are there split into the operands of the first and the rest. -/
theorem exists_operands_append {op : Byte} {bytes : List Byte} (h : instrLength op ≤ bytes.length + 1) :
    ∃ operands rest, operands.length + 1 = instrLength op ∧ operands ++ rest = bytes ∧
      rest = (op :: bytes).drop (instrLength op) := by
  obtain ⟨n, hn⟩ := Nat.exists_eq_add_of_le' (instrLength_pos op)
  refine ⟨bytes.take n, bytes.drop n, ?_, List.take_append_drop n bytes, by rw [hn]; rfl⟩
  rw [hn] at h ⊢
  simpa using h

/-- What the decoder answers, it read from an opcode byte and as many operand bytes as that one asks for. -/
theorem exists_of_decode_eq_instr {bytes rest : List Byte} {i : Instr} (h : decode bytes = .instr i rest) :
    ∃ op operands, operands.length + 1 = instrLength op ∧ bytes = op :: operands ++ rest ∧
      i = instrOfBytes op operands := by
  match bytes with
  | [] => cases h
  | op :: tail =>
    by_cases hn : tail.length + 1 < instrLength op
    · rw [decode_of_truncated hn] at h
      cases h
    · obtain ⟨operands, rest', hlen, rfl, -⟩ := exists_operands_append (Nat.le_of_not_lt hn)
      rw [← List.cons_append, decode_append hlen] at h
      cases h
      exact ⟨op, operands, hlen, rfl, rfl⟩

theorem encode_instrOfBytes {op : Byte} {operands : List Byte} (h : operands.length + 1 = instrLength op) :
    encode (instrOfBytes op operands) = op :: operands := by
  have hle := instrLength_le_three op
  rw [instrOfBytes, encode_instrOf, ← h]
  match operands with
  | [] => rfl
  | [_] => rfl
  | [_, _] => rfl
  | _ :: _ :: _ :: _ => simp only [List.length_cons] at h; omega

/-! ### Instructions -/

theorem length_encode (i : Instr) : Laws.Length.Statement i := by
  cases i <;> rfl

theorem encode_eq_cons (i : Instr) : encode i = opcodeOf i :: (encode i).tail := by
  have hpos : 0 < (encode i).length := (instrLength_pos _).trans_eq (length_encode i).symm
  obtain ⟨op, operands, h⟩ := List.exists_cons_of_length_pos hpos
  simp [opcodeOf, h]

/-- The well-formed instructions are those that their opcode builds from their operand bytes: a branch loses a
displacement that does not fit its byte, no other operand loses a bit. -/
theorem instrOfBytes_encode_iff (i : Instr) : instrOfBytes (opcodeOf i) (encode i).tail = i ↔ i.WellFormed := by
  cases i
  -- a displacement
  case bpl d | bmi d | bvc d | bvs d | bcc d | bcs d | bne d | beq d =>
    refine Iff.trans ⟨fun h => ?_, fun h => ?_⟩ (dispOfByte_byteOfDisp_iff d)
    · injection h
    · exact (congrArg _ h.symm).symm
  -- a 16-bit address
  case nopAbs0c | oraAbs | aslAbs | sloAbs | oraAby | sloAby | nopAbx1c | oraAbx | aslAbx | sloAbx | jsr |
    bitAbs | andAbs | rolAbs | rlaAbs | andAby | rlaAby | nopAbx3c | andAbx | rolAbx | rlaAbx | jmpAbs | eorAbs |
    lsrAbs | sreAbs | eorAby | sreAby | nopAbx5c | eorAbx | lsrAbx | sreAbx | jmpInd | adcAbs | rorAbs |
    rraAbs | adcAby | rraAby | nopAbx7c | adcAbx | rorAbx | rraAbx | styAbs | staAbs | stxAbs | saxAbs | staAby |
    staAbx | ldyAbs | ldaAbs | ldxAbs | laxAbs | ldaAby | ldyAbx | ldaAbx | ldxAby | laxAby | cpyAbs | cmpAbs |
    decAbs | dcpAbs | cmpAby | dcpAby | nopAbxdc | cmpAbx | decAbx | dcpAbx | cpxAbs | sbcAbs | incAbs |
    iscAbs | sbcAby | iscAby | nopAbxfc | sbcAbx | incAbx | iscAbx =>
    exact iff_of_true (congrArg _ (addrOf_hiByte_loByte _).symm).symm rfl
  -- one byte or none
  all_goals exact iff_of_true rfl rfl

/-- Settles O23: an encoding is as long as its first byte says, and its operand bytes give the instruction back. -/
theorem decodeOfEncodeIsTheInstruction : Obligations.DecodeOfEncodeIsTheInstruction := by
  intro i hwf rest
  have hlen : (encode i).tail.length + 1 = instrLength (opcodeOf i) := by
    rw [← length_encode i, ← List.length_cons, ← encode_eq_cons]
  rw [encode_eq_cons i, decode_append hlen, (instrOfBytes_encode_iff i).2 hwf]

/-- Settles O24: the bytes that the decoder read encode what their opcode builds from them. -/
theorem decodedBytesAreTheEncoding : Obligations.DecodedBytesAreTheEncoding := by
  intro bytes i rest h
  obtain ⟨op, operands, hlen, rfl, rfl⟩ := exists_of_decode_eq_instr h
  have henc := encode_instrOfBytes hlen
  refine ⟨by rw [henc], (instrOfBytes_encode_iff _).1 ?_⟩
  rw [opcodeOf, henc]; rfl

/-- Settles O25: the bytes that are there either hold all operands of the first or do not. -/
theorem decoderIsTotalOnOpcodes : Obligations.DecoderIsTotalOnOpcodes := by
  refine fun op => ⟨instrLength_pos op, instrLength_le_three op, fun bytes => ⟨fun h => ?_, decode_of_truncated⟩⟩
  obtain ⟨operands, rest, hlen, rfl, hrest⟩ := exists_operands_append h
  refine ⟨instrOfBytes op operands, ?_, ?_⟩
  · rw [← hrest]
    exact decode_append hlen rest
  · rw [encode_instrOfBytes hlen, ← hlen]; rfl

/-- The illegal entries are those without a mnemonic (R117). -/
theorem entryOf_kind_eq_illegal_iff : ∀ op : Byte, (entryOf op).kind = .illegal ↔ (entryOf op).mnemonic = .xxx := by
  decide

/-- Settles O26: the classes of the 256 bytes are looked up, and counted row by row. -/
theorem opcodeMapPartition : Obligations.OpcodeMapPartition := by
  refine ⟨length_opTable, fun op => ⟨?illegal, entryOf_kind_eq_illegal_iff op, ?unofficial⟩, ?_, ?_, ?_⟩
  case illegal => revert op; decide
  case unofficial => revert op; decide
  all_goals
    simp only [opTable, List.countP_append]
    rfl

end Sys2Proof.Machine
end

section
/-! PROOFS. Addresses and control transfers (O32, O14, O15): effective addresses in numbers, where a branch or a jump
leaves the PC. -/

namespace Sys2Proof.Machine

/-! ### Effective addresses in numbers (R138 to R152) -/

theorem zeroPage_toNat (z : Byte) : (zeroPage z).toNat = z.toNat :=
  BitVec.toNat_setWidth_of_le (by decide)

/-- A 16-bit sum with an index byte wraps modulo 65536 (D13). -/
theorem indexed_toNat (w : Addr) (b : Byte) : (w + b.setWidth 16).toNat = (w.toNat + b.toNat) % 65536 := by
  rw [BitVec.toNat_add, BitVec.toNat_setWidth_of_le (by decide)]

/-- A zero-page byte is a RAM byte. -/
theorem busValue_zeroPage (z : Byte) (s : State) : busValue (zeroPage z) s = s.ram.read z.toNat := by
  have hz := z.isLt
  have hread := congrArg Prod.fst (memRead_ram (a := zeroPage z) s (by rw [zeroPage_toNat]; omega))
  rwa [zeroPage_toNat, Nat.mod_eq_of_lt (by omega)] at hread

/-- Both bytes of a zero-page pointer come from page 0 (D12). -/
theorem zeroPagePointer_toNat (z : Byte) (s : State) :
    (zeroPagePointer z s).toNat = (s.ram.read z.toNat).toNat + 256 * (s.ram.read ((z.toNat + 1) % 256)).toNat := by
  rw [zeroPagePointer, addrOf_toNat, busValue_zeroPage, busValue_zeroPage, BitVec.toNat_add]
  rfl

theorem branchTarget_toNat (d : Int) (s : State) : ((branchTarget d s).toNat : Int) = (s.pc.toNat + d) % 65536 := by
  rw [branchTarget, BitVec.toNat_add, BitVec.toNat_ofInt]
  omega

/-- Settles O32: each mode is a sum of bytes or of a pointer and a byte, cut to its width. -/
theorem addressArithmeticWraps : Obligations.AddressArithmeticWraps := by
  intro s z w
  refine ⟨⟨zeroPage_toNat z, rfl⟩, ⟨?zpx, rfl⟩, ⟨?zpy, rfl⟩, ⟨rfl, rfl⟩, ⟨indexed_toNat w s.x, pageCrossed_eq _ w⟩,
    ⟨indexed_toNat w s.y, pageCrossed_eq _ w⟩, ⟨?izx, rfl⟩, ⟨_, rfl, ?izy⟩, fun d => branchTarget_toNat d s⟩
  case zpx => exact (zeroPage_toNat _).trans (BitVec.toNat_add z s.x)
  case zpy => exact (zeroPage_toNat _).trans (BitVec.toNat_add z s.y)
  case izx =>
    have hsum : (z + s.x).toNat = (z.toNat + s.x.toNat) % 256 := BitVec.toNat_add z s.x
    rw [modeIzx, zeroPagePointer_toNat, hsum, Nat.mod_add_mod]
  case izy =>
    rw [← zeroPagePointer_toNat]
    exact ⟨indexed_toNat _ s.y, pageCrossed_eq _ _⟩

/-! ### Branches (R210 to R218) -/

/-- What a branch answers: the target in `ea`, and in PC if it is taken; the page is compared with that of the next
instruction (R135, D14). -/
theorem branchInstr_eq (c : Bool) (d : Int) (s : State) :
    branchInstr c d s = .next { s with
      ea := branchTarget d s
      pc := if c then branchTarget d s else s.pc
      remaining := if c then (if (branchTarget d s).toNat / 256 = s.pc.toNat / 256 then 3 else 4) else 2
      instructions := s.instructions + 1#64 } := by
  cases c
  case false => rfl
  case true =>
    rw [branchInstr, branchExtra, finish_eq]
    simp only [page_eq_iff, Bool.not_true, Bool.false_eq_true, if_false, if_true, setPc, setEa]
    split_ifs <;> rfl

/-- Settles O14: every branch is `BRANCH` with its own condition. -/
theorem branchesGoToTheirTarget : Obligations.BranchesGoToTheirTarget := by
  intro s d _ _ q hq
  have hbranch : encode q.1 = [q.2.1, BitVec.ofInt 8 d] ∧ exec q.1 s = branchInstr q.2.2 d s := by
    revert q
    simp only [List.forall_mem_cons, beq_true, beq_false]
    exact ⟨⟨rfl, rfl⟩, ⟨rfl, rfl⟩, ⟨rfl, rfl⟩, ⟨rfl, rfl⟩, ⟨rfl, rfl⟩, ⟨rfl, rfl⟩, ⟨rfl, rfl⟩, ⟨rfl, rfl⟩, nofun⟩
  obtain ⟨hencode, hexec⟩ := hbranch
  rw [branchInstr_eq] at hexec
  exact ⟨hencode, _, hexec, branchTarget_toNat d s, rfl, ⟨rfl, rfl⟩, ⟨rfl, rfl, rfl, rfl⟩, rfl, rfl,
    ⟨⟨rfl, rfl, rfl, rfl⟩, ⟨rfl, rfl, rfl⟩, rfl, rfl, rfl⟩, readsSame_of_eq rfl rfl, rfl, rfl, rfl, rfl, rfl, rfl⟩

/-! ### Jumps (R219, R220) -/

/-- The high byte of an indirect target is read in the page of its pointer (R150). -/
theorem indHighAddr_eq (w : Addr) : indHighAddr w = if w.toNat % 256 = 255 then w - 255#16 else w + 1#16 := by
  have hw := w.isLt
  have hlast : loByte w = 0xFF#8 ↔ w.toNat % 256 = 255 := by rw [← BitVec.toNat_inj, loByte_toNat]; rfl
  simp only [indHighAddr, hlast]
  refine ite_congr rfl (fun h => ?_) (fun _ => rfl)
  rw [← BitVec.toNat_inj, page_toNat, BitVec.toNat_sub_of_le]
  · change w.toNat / 256 * 256 = w.toNat - 255
    omega
  · change 255 ≤ w.toNat
    omega

theorem modeInd_eq (w : Addr) (s : State) :
    modeInd w s = setEa (addrOf (busValue (indHighAddr w) (busReadEffect w s)) (busValue w s))
      (busReadEffect (indHighAddr w) (busReadEffect w s)) := rfl

/-- Settles O15: JMP (w) changes what its two reads change, and then `ea` and PC. -/
theorem jumpsLoadThePc : Obligations.JumpsLoadThePc := by
  refine ⟨fun s w => ⟨rfl, rfl⟩, fun s w => ⟨rfl, _, _, rfl, rfl, ?_⟩⟩
  rw [← indHighAddr_eq, modeInd_eq]
  refine ⟨addrOf_toNat _ _, rfl, ?_⟩
  simp [Owes, SameRegisters, SameMemories, SameDevices, SameFaults, SameSystem, readsSame_of_eq]

end Sys2Proof.Machine
end

section
/-! PROOFS. Ticks of a running system (O31, O28, O37): a clock that drains, a clock that executes the instruction at PC,
and which of them can take an interrupt. -/

namespace Sys2Proof.Machine

/-! ### A tick that leaves cycles owed -/

/-- The tick of a running system is no CPU clock and cycles are owed, or it is one and at least two are owed: no
instruction begins in it and it reaches no boundary. -/
def LeavesOwed (s : State) : Prop :=
  (s.master.toNat % 3 ≠ 0 ∧ s.remaining ≠ 0) ∨ (s.master.toNat % 3 = 0 ∧ 2 ≤ s.remaining)

/-- Such a tick is the PPU's dot and, on a CPU clock, one cycle drained (R130, R301). -/
theorem step_of_leavesOwed {s : State} (hh : s.halted = false) (h : LeavesOwed s) :
    step s = .next { ppuTick s with
      remaining := s.remaining - (if s.master.toNat % 3 = 0 then 1 else 0)
      cycles := s.cycles + (if s.master.toNat % 3 = 0 then 1#64 else 0#64)
      master := s.master + 1#64 } := by
  obtain ⟨hm, hr⟩ | ⟨hm, hr⟩ := h
  · rw [step_off_cpu hh hm, endTick_owing (.inr (by simpa using hr))]
    simp only [hm, if_false, Nat.sub_zero, BitVec.add_zero]
    rw [← ppuTick_remaining s, ← ppuTick_cycles s, ← ppuTick_master s]
  · have hleft : (countClock (ppuTick s)).remaining ≠ 0 := by simp [countClock]; omega
    rw [step_draining hh hm (by omega), endTick_owing (.inr hleft)]
    simp [hm, countClock]

/-- Settles O31: such a tick is the PPU's dot and the counts. -/
theorem clocksDrainOwedCycles : Obligations.ClocksDrainOwedCycles := by
  intro s hh h
  refine ⟨_, step_of_leavesOwed hh h, ?_⟩
  simp [SameRegisters, SameWorking, SameMemories, SameFaults, ppuTick_nmiPending]

/-! ### A tick that executes -/

/-- A CPU clock at a boundary is the instruction, its own clock unless it halted the system, and the count of the tick:
it owes cycles or has halted, so no interrupt is looked for (R132, R302, D6). -/
theorem step_of_executed {s t : State} (hh : s.halted = false) (hm : s.master.toNat % 3 = 0) (hr : s.remaining = 0)
    (he : exec (fetchInstr (ppuTick s)).1 (fetchInstr (ppuTick s)).2 = .next t) :
    t.nmiPending = NmiRequested s ∧ (t.halted = false → 2 ≤ t.remaining ∧ t.instructions = s.instructions + 1#64) ∧
    step s = .next (if t.halted then { t with master := s.master + 1#64 }
      else { t with remaining := t.remaining - 1, cycles := s.cycles + 1#64, master := s.master + 1#64 }) := by
  obtain ⟨u, hu, ⟨hm', -⟩ | ⟨-, hr', -⟩ | ⟨-, -, t', he', hw, hdone, rfl⟩⟩ := step_cases hh
  · exact absurd hm hm'
  · exact absurd hr hr'
  obtain rfl : t = t' := by simpa [he] using he'
  have hmaster : t.master = s.master := hw.master.trans (ppuTick_master s)
  have hcycles : t.cycles = s.cycles := hw.cycles.trans (ppuTick_cycles s)
  refine ⟨hw.nmiPending.trans (ppuTick_nmiPending s), fun hrun => ?_, ?_⟩
  · obtain ⟨hlo, -, hcount⟩ | ⟨hhalt, -⟩ := hdone
    · exact ⟨hlo, hcount⟩
    · simp [hrun] at hhalt
  · rw [hu, endTick_executed hdone, hmaster, hcycles]

/-- A byte behind no device port is read without side effect (R79). -/
theorem busReadEffect_of_plainAddr {b : Addr} (s : State) (h : plainAddr b = true) : busReadEffect b s = s :=
  busReadEffect_of_plain s (by simpa [plainAddr, and_assoc] using h)

theorem length_encode_of_decode {op : Byte} {tail rest : List Byte} {i : Instr} (h : decode (op :: tail) = .instr i rest) :
    (encode i).length = instrLength op := by
  obtain ⟨op', operands, hlen, hbytes, rfl⟩ := exists_of_decode_eq_instr h
  obtain ⟨rfl, -⟩ := List.cons.inj hbytes
  rw [encode_instrOfBytes hlen, List.length_cons, hlen]

/-- Bytes behind no device port are fetched as the decoder reads them, and nothing but PC and the opcode's working field
changes (R132, R133). -/
theorem fetchInstr_of_plain {s : State} {op b1 b2 : Byte} {i : Instr} {rest : List Byte}
    (hdecode : decode [op, b1, b2] = .instr i rest)
    (hbytes : ∀ k < instrLength op,
      plainAddr (s.pc + BitVec.ofNat 16 k) = true ∧ busValue (s.pc + BitVec.ofNat 16 k) s = [op, b1, b2].getD k 0) :
    fetchInstr s = (i, { s with pc := s.pc + BitVec.ofNat 16 (instrLength op), opcode := op }) := by
  have two : s.pc + 1#16 + 1#16 = s.pc + 2#16 := BitVec.add_assoc _ _ _
  have three : s.pc + 2#16 + 1#16 = s.pc + 3#16 := BitVec.add_assoc _ _ _
  have hread : ∀ k < instrLength op, busValue (s.pc + BitVec.ofNat 16 k) s = [op, b1, b2].getD k 0 ∧
      busReadEffect (s.pc + BitVec.ofNat 16 k) s = s :=
    fun k hk => ⟨(hbytes k hk).2, busReadEffect_of_plainAddr s (hbytes k hk).1⟩
  obtain ⟨hv0, he0⟩ := hread 0 (instrLength_pos op)
  rw [show s.pc + BitVec.ofNat 16 0 = s.pc from BitVec.add_zero _] at hv0 he0
  change busValue s.pc s = op at hv0
  obtain ⟨-, hf, hn⟩ | ⟨-, ⟨hf, hn⟩ | ⟨hf, hn⟩ | ⟨hf, hn⟩⟩ := operandFetch_cases op <;>
    rw [← hv0] at hf <;> rw [hn] at hread ⊢
  · obtain ⟨hv1, -⟩ := hread 1 (by decide)
    rw [decode_of_length_two hn] at hdecode
    cases hdecode
    rw [fetchInstr_skipped hf, he0, hv0, hv1, two]
    rfl
  · rw [decode_of_length_one hn] at hdecode
    cases hdecode
    rw [fetchInstr_none hf, he0, hv0]
    rfl
  · obtain ⟨hv1, he1⟩ := hread 1 (by decide)
    rw [decode_of_length_two hn] at hdecode
    cases hdecode
    rw [fetchInstr_one hf, he0, he1, hv0, hv1, two]
    rfl
  · obtain ⟨hv1, he1⟩ := hread 1 (by decide)
    obtain ⟨hv2, he2⟩ := hread 2 (by decide)
    rw [decode_of_length_three hn] at hdecode
    cases hdecode
    rw [fetchInstr_two hf, he0, he1, two, he2, hv0, hv1, hv2, three]
    rfl

/-- Settles O28: the PPU's dot changes no byte that the fetch reads, and the fetch makes of them what the decoder does. -/
theorem stepRunsDecodedInstruction : Obligations.StepRunsDecodedInstruction := by
  intro s i rest hh hr hm hdecode hplain t he
  have hlen := length_encode_of_decode hdecode
  have hfetch := fetchInstr_of_plain (s := ppuTick s) hdecode fun k hk => by
    have hle := instrLength_le_three (busValue s.pc s)
    have hp := hplain k (hlen ▸ hk)
    rw [ppuTick_pc]
    refine ⟨hp, (busValue_ppuTick s hp).trans ?_⟩
    obtain _ | _ | _ | k := k
    · exact congrArg (busValue · s) (BitVec.add_zero s.pc)
    · rfl
    · rfl
    · omega
  rw [ppuTick_pc, ← hlen] at hfetch
  obtain ⟨-, -, hstep⟩ := step_of_executed hh hm hr (by rw [hfetch]; exact he)
  exact hstep

/-! ### Interrupts (R302) -/

/-- A tick that does not end at a boundary takes no NMI: the request it leaves is that of the PPU's dot. -/
theorem nmiPending_of_not_endsAtBoundary {s t : State} (hh : s.halted = false) (hb : ¬ EndsAtBoundary s)
    (hstep : step s = .next t) : t.nmiPending = NmiRequested s := by
  by_cases howed : LeavesOwed s
  · obtain rfl := Host.Outcome.next.inj (hstep.symm.trans (step_of_leavesOwed hh howed))
    exact ppuTick_nmiPending s
  · obtain ⟨hm, hr⟩ : s.master.toNat % 3 = 0 ∧ s.remaining = 0 := by
      simp only [EndsAtBoundary, LeavesOwed, hh, true_and] at hb howed
      omega
    obtain ⟨u, he, -⟩ := exec_completes (fetchInstr (ppuTick s)).1 (fetchInstr (ppuTick s)).2
    obtain ⟨hnmi, -, hu⟩ := step_of_executed hh hm hr he
    obtain rfl := Host.Outcome.next.inj (hstep.symm.trans hu)
    split <;> exact hnmi

/-- Settles O37: only a tick that ends at a boundary changes more than the PPU's dot, the instruction and the counts. -/
theorem interruptsOnlyAtBoundaries : Obligations.InterruptsOnlyAtBoundaries := by
  intro s t hh hstep
  refine ⟨fun hpending hgone => ?_, fun howed => ?_, fun hm hr => ?_⟩
  · by_contra hb
    have hkept := nmiPending_of_not_endsAtBoundary hh hb hstep
    simp [NmiRequested, hpending, hgone] at hkept
  · obtain rfl := Host.Outcome.next.inj (hstep.symm.trans (step_of_leavesOwed hh howed))
    have hleft : 1 ≤ s.remaining - (if s.master.toNat % 3 = 0 then 1 else 0) := by split_ifs <;> omega
    simp [SameRegisters, SameWorking, SameMemories, ppuTick_nmiPending, hleft]
  · obtain ⟨u, he, -⟩ := exec_completes (fetchInstr (ppuTick s)).1 (fetchInstr (ppuTick s)).2
    obtain ⟨hnmi, hrun, hu⟩ := step_of_executed hh hm hr he
    obtain rfl := Host.Outcome.next.inj (hstep.symm.trans hu)
    refine ⟨?request, ?owes, u, he, ?frame⟩
    case request => split <;> exact hnmi
    case owes =>
      split
      next hhalt => exact fun h => absurd (hhalt.symm.trans h) (by decide)
      next =>
        intro h
        obtain ⟨hlo, hcount⟩ := hrun h
        exact ⟨Nat.le_sub_of_add_le hlo, hcount⟩
    case frame =>
      split <;>
        exact ⟨⟨rfl, rfl, rfl, rfl⟩, rfl, ⟨rfl, rfl, rfl⟩, ⟨rfl, rfl, rfl, rfl⟩, ⟨rfl, rfl, rfl⟩, ⟨rfl, rfl, rfl⟩⟩

end Sys2Proof.Machine
end

section
/-! PROOFS. Loads, stores, transfers, pushes and pulls (O1, O2, O12, O13): one lemma for each way an operand is reached
and for each shape of transfer, then each form by the lemma of its mode. -/

namespace Sys2Proof.Machine

/-! ### Forms that read an operand -/

/-- The registers A, X, Y and the flags the same. -/
def SameAxyp (s t : State) : Prop := t.a = s.a ∧ t.x = s.x ∧ t.y = s.y ∧ t.p = s.p

/-- `op` computes A, X, Y and the flags from them and its operand, and `Q` says of the operand, the state before and the
state after what they are. -/
structure Leaves (op : Byte → State → State) (Q : Byte → State → State → Prop) : Prop where
  computes : Computes op
  post : ∀ v {s u t}, SameAxyp s u → SameAxyp (op v u) t → Q v s t

namespace Leaves

variable {op : Byte → State → State} {Q : Byte → State → State → Prop} {i : Instr} {code : Byte} {m : ModeResult}
  {base : Nat} {s : State}

/-- A mode that crosses no page costs the base count, whatever the instruction asks for (R134). -/
theorem reads_memForm {wants : Bool} (h : Leaves op Q) (he : exec i s = readInstr base wants m op s)
    (hc : (encode i).head? = some code) (hm : m.crossed = false) :
    (memForm i code m base s).Reads s (Q (busValue m.ea s) s) :=
  Form.reads_of_readInstr he hc h.computes (by rw [hm]; rfl)
    fun _ _ ha hx hy hp ua ux uy up => h.post _ ⟨ua, ux, uy, up⟩ ⟨ha, hx, hy, hp⟩

/-- A form marked `+` pays for the page it crosses (R134). -/
theorem reads_pagedForm (h : Leaves op Q) (he : exec i s = readInstr base true m op s)
    (hc : (encode i).head? = some code) : (pagedForm i code m base s).Reads s (Q (busValue m.ea s) s) :=
  Form.reads_of_readInstr he hc h.computes (by rw [extraCycle, Bool.and_true])
    fun _ _ ha hx hy hp ua ux uy up => h.post _ ⟨ua, ux, uy, up⟩ ⟨ha, hx, hy, hp⟩

theorem reads_immForm {n : Byte} (h : Leaves op Q) (he : exec i s = readImm 2 n op s)
    (hc : (encode i).head? = some code) : (immForm i code n s).Reads s (Q n s) :=
  Form.reads_of_readImm he hc h.computes
    fun _ _ ha hx hy hp ua ux uy up => h.post _ ⟨ua, ux, uy, up⟩ ⟨ha, hx, hy, hp⟩

end Leaves

/-! ### Loads (R160 to R162, R241) -/

/-- The flags of `setZN` on a state with the flags of `s` (R9). -/
theorem flags_of_putZN {v : Byte} {s u t : State} (hp : t.p = putZN v u.p) (up : u.p = s.p) :
    ShowsZN v t ∧ FlagsKept [.z, .n] s t :=
  ⟨showsZN_of hp, flagsKept_of_putZN (up ▸ hp)⟩

theorem loadA_leaves :
    Leaves loadA fun v s t => t.a = v ∧ t.x = s.x ∧ t.y = s.y ∧ ShowsZN v t ∧ FlagsKept [.z, .n] s t where
  computes _ _ := rfl
  post _ := fun ⟨_, ux, uy, up⟩ ⟨ha, hx, hy, hp⟩ =>
    ⟨ha, hx.trans ux, hy.trans uy, flags_of_putZN hp up⟩

theorem loadX_leaves :
    Leaves loadX fun v s t => t.x = v ∧ t.a = s.a ∧ t.y = s.y ∧ ShowsZN v t ∧ FlagsKept [.z, .n] s t where
  computes _ _ := rfl
  post _ := fun ⟨ua, _, uy, up⟩ ⟨ha, hx, hy, hp⟩ =>
    ⟨hx, ha.trans ua, hy.trans uy, flags_of_putZN hp up⟩

theorem loadY_leaves :
    Leaves loadY fun v s t => t.y = v ∧ t.a = s.a ∧ t.x = s.x ∧ ShowsZN v t ∧ FlagsKept [.z, .n] s t where
  computes _ _ := rfl
  post _ := fun ⟨ua, ux, _, up⟩ ⟨ha, hx, hy, hp⟩ =>
    ⟨hy, ha.trans ua, hx.trans ux, flags_of_putZN hp up⟩

theorem loadAX_leaves :
    Leaves loadAX fun v s t => t.a = v ∧ t.x = v ∧ t.y = s.y ∧ ShowsZN v t ∧ FlagsKept [.z, .n] s t where
  computes _ _ := rfl
  post _ := fun ⟨_, _, uy, up⟩ ⟨ha, hx, hy, hp⟩ =>
    ⟨ha, hx, hy.trans uy, flags_of_putZN hp up⟩

/-- Settles O1: what each load leaves, in every mode it has. -/
theorem loadsReadTheirOperand : Obligations.LoadsReadTheirOperand := by
  refine ⟨⟨fun s z n w => ?lda, fun s z n w => ?ldx, fun s z n w => ?ldy⟩, fun s z w => ?lax⟩ <;>
    simp only [List.forall_mem_cons]
  case lda =>
    have h := loadA_leaves
    exact ⟨h.reads_memForm rfl rfl rfl, h.reads_memForm rfl rfl rfl, h.reads_immForm rfl rfl,
      h.reads_memForm rfl rfl rfl, h.reads_pagedForm rfl rfl, h.reads_memForm rfl rfl rfl,
      h.reads_pagedForm rfl rfl, h.reads_pagedForm rfl rfl, List.forall_mem_nil _⟩
  case ldx =>
    have h := loadX_leaves
    exact ⟨h.reads_immForm rfl rfl, h.reads_memForm rfl rfl rfl, h.reads_memForm rfl rfl rfl,
      h.reads_memForm rfl rfl rfl, h.reads_pagedForm rfl rfl, List.forall_mem_nil _⟩
  case ldy =>
    have h := loadY_leaves
    exact ⟨h.reads_immForm rfl rfl, h.reads_memForm rfl rfl rfl, h.reads_memForm rfl rfl rfl,
      h.reads_memForm rfl rfl rfl, h.reads_pagedForm rfl rfl, List.forall_mem_nil _⟩
  case lax =>
    have h := loadAX_leaves
    exact ⟨h.reads_memForm rfl rfl rfl, h.reads_memForm rfl rfl rfl, h.reads_memForm rfl rfl rfl,
      h.reads_pagedForm rfl rfl, h.reads_memForm rfl rfl rfl, h.reads_pagedForm rfl rfl, List.forall_mem_nil _⟩

/-! ### Stores (R163 to R165, R242) -/

/-- Settles O2: each form is a store in its mode. -/
theorem storesWriteOnlyTheirByte : Obligations.StoresWriteOnlyTheirByte := by
  refine ⟨fun s z w => ?sta, fun s z w => ?stx, fun s z w => ?sty, fun s z w => ?sax⟩ <;>
    simp only [List.forall_mem_cons]
  case sta => refine ⟨?_, ?_, ?_, ?_, ?_, ?_, ?_, List.forall_mem_nil _⟩ <;> exact StoreForm.stores_of_storeInstr rfl rfl
  case stx | sty => refine ⟨?_, ?_, ?_, List.forall_mem_nil _⟩ <;> exact StoreForm.stores_of_storeInstr rfl rfl
  case sax => refine ⟨?_, ?_, ?_, ?_, List.forall_mem_nil _⟩ <;> exact StoreForm.stores_of_storeInstr rfl rfl

/-! ### Transfers (R166 to R171) -/

/-- An instruction that computes registers and flags completes. -/
theorem implied_of_registers {i : Instr} {op a x y sp p : Byte} {n : Nat} {s : State} {P : State → Prop}
    (he : exec i s = finish n 0 { s with a := a, x := x, y := y, sp := sp, p := p })
    (hc : (encode i).head? = some op) (hP : P (finished n { s with a := a, x := x, y := y, sp := sp, p := p })) :
    Implied i op n s P :=
  ⟨hc, _, he, hP, ⟨rfl, rfl⟩, ⟨⟨rfl, rfl, rfl, rfl⟩, ⟨rfl, rfl, rfl⟩, rfl, rfl, rfl⟩, readsSame_of_eq rfl rfl,
    rfl, rfl, rfl, rfl, rfl, rfl⟩

/-- Settles O12: each transfer computes registers, and all but TXS Z and N of the byte. -/
theorem transfersCopyRegisters : Obligations.TransfersCopyRegisters := by
  refine ⟨fun s => ?tax, fun s => ?tay, fun s => ?tsx, fun s => ?txa, fun s => ?txs, fun s => ?tya⟩
  case txs => exact implied_of_registers rfl rfl ⟨⟨rfl, rfl, rfl⟩, rfl, rfl, rfl, rfl, rfl⟩
  all_goals exact implied_of_registers rfl rfl ⟨⟨rfl, rfl, rfl⟩, rfl, rfl, rfl, rfl, flags_of_putZN rfl rfl⟩

/-! ### Pushes and pulls (R172 to R175) -/

/-- An instruction that pushes one byte completes, and stores that byte alone (R9, R22). -/
theorem stacked_of_push {i : Instr} {op v : Byte} {n : Nat} {s : State} {P : State → Prop}
    (he : exec i s = finish n 0 (push v s)) (hc : (encode i).head? = some op)
    (hP : ∀ ram, P (finished n { s with ram := ram, sp := s.sp - 1#8 })) : Stacked i op n [(s.sp, v)] s P := by
  rw [push_eq] at he
  exact ⟨hc, _, he, hP _, ⟨rfl, rfl⟩, rfl, rfl, rfl, ⟨rfl, rfl, rfl⟩, ⟨rfl, rfl, rfl⟩, ⟨rfl, rfl, rfl, rfl, rfl, rfl⟩,
    nofun, fun hw => stackStored_cons hw (stackStored_nil rfl rfl) rfl rfl⟩

theorem pull_eq_stackByte (s : State) : pull s = (stackByte (s.sp + 1#8) s, { s with sp := s.sp + 1#8 }) := by
  rw [pull_eq, stackByte_eq]
  rfl

/-- An instruction that pulls one byte into registers and flags completes. -/
theorem stacked_of_pull {i : Instr} {op a x y p : Byte} {n : Nat} {s : State} {P : State → Prop}
    (he : exec i s = finish n 0 { s with a := a, x := x, y := y, sp := s.sp + 1#8, p := p })
    (hc : (encode i).head? = some op)
    (hP : P (finished n { s with a := a, x := x, y := y, sp := s.sp + 1#8, p := p })) : Stacked i op n [] s P :=
  ⟨hc, _, he, hP, ⟨rfl, rfl⟩, rfl, rfl, rfl, ⟨rfl, rfl, rfl⟩, ⟨rfl, rfl, rfl⟩, ⟨rfl, rfl, rfl, rfl, rfl, rfl⟩,
    fun _ => rfl, fun _ => stackStored_nil rfl rfl⟩

theorem exec_pla (s : State) : exec .pla s = finish 4 0
    { s with a := stackByte (s.sp + 1#8) s, sp := s.sp + 1#8, p := putZN (stackByte (s.sp + 1#8) s) s.p } := by
  change execPla s = _
  rw [execPla, pull_eq_stackByte]
  rfl

theorem exec_plp (s : State) : exec .plp s = finish 4 0
    { s with sp := s.sp + 1#8, p := pulledStatus (stackByte (s.sp + 1#8) s) } := by
  change execPlp s = _
  rw [execPlp, pull_eq_stackByte]
  rfl

/-- Settles O13: a push stores one byte of the stack page, a pull reads one. -/
theorem pushesAndPullsMoveOneByte : Obligations.PushesAndPullsMoveOneByte := by
  refine ⟨⟨fun s => ?pha, fun s => ?php⟩, fun s => ?pla, fun s => ?plp⟩
  case pha | php => exact stacked_of_push rfl rfl fun _ => ⟨⟨rfl, rfl, rfl⟩, rfl, rfl, rfl, rfl, rfl⟩
  case pla =>
    exact stacked_of_pull (exec_pla s) rfl ⟨⟨rfl, rfl, rfl⟩, rfl, rfl, showsZN_of rfl, flagsKept_of_putZN rfl, rfl, rfl⟩
  case plp => exact stacked_of_pull (exec_plp s) rfl ⟨⟨rfl, rfl, rfl⟩, rfl, rfl, rfl, rfl, rfl⟩

end Sys2Proof.Machine
end

section
/-! PROOFS. Arithmetic, logic, comparisons, shifts (O3 to O11, O33): what each operation leaves, then one lemma for the
modes that a family of instructions shares. -/

namespace Sys2Proof.Machine

/-! ### The eight reading modes -/

/-- The modes of ORA, AND, EOR, ADC, CMP and SBC: the opcode bytes are one base plus an offset that the mode gives
(R114). -/
theorem Leaves.reads_eightModes {op : Byte → State → State} {Q : Byte → State → State → Prop} (h : Leaves op Q)
    (base : Byte) {izx zp0 imm abs izy zpx aby abx : Instr} {z n : Byte} {w : Addr} {s : State}
    (he : [exec izx s, exec zp0 s, exec imm s, exec abs s, exec izy s, exec zpx s, exec aby s, exec abx s] =
      [readInstr 6 true (modeIzx z s) op s, readInstr 3 true (modeZp0 z) op s, readImm 2 n op s,
        readInstr 4 true (modeAbs w) op s, readInstr 5 true (modeIzy z s) op s, readInstr 4 true (modeZpx z s) op s,
        readInstr 4 true (modeAby w s) op s, readInstr 4 true (modeAbx w s) op s])
    (hc : [izx, zp0, imm, abs, izy, zpx, aby, abx].map (fun i => (encode i).head?) =
      [0x01, 0x05, 0x09, 0x0D, 0x11, 0x15, 0x19, 0x1D].map (fun k => some (base + k))) :
    ∀ f ∈ [memForm izx (base + 0x01) (modeIzx z s) 6 s, memForm zp0 (base + 0x05) (modeZp0 z) 3 s,
        immForm imm (base + 0x09) n s, memForm abs (base + 0x0D) (modeAbs w) 4 s,
        pagedForm izy (base + 0x11) (modeIzy z s) 5 s, memForm zpx (base + 0x15) (modeZpx z s) 4 s,
        pagedForm aby (base + 0x19) (modeAby w s) 4 s, pagedForm abx (base + 0x1D) (modeAbx w s) 4 s],
      f.Reads s (Q f.value s) := by
  simp only [List.cons.injEq, List.map_cons] at he hc
  obtain ⟨eIzx, eZp0, eImm, eAbs, eIzy, eZpx, eAby, eAbx, -⟩ := he
  obtain ⟨cIzx, cZp0, cImm, cAbs, cIzy, cZpx, cAby, cAbx, -⟩ := hc
  simp only [List.forall_mem_cons]
  exact ⟨h.reads_memForm eIzx cIzx rfl, h.reads_memForm eZp0 cZp0 rfl, h.reads_immForm eImm cImm,
    h.reads_memForm eAbs cAbs rfl, h.reads_pagedForm eIzy cIzy, h.reads_memForm eZpx cZpx rfl,
    h.reads_pagedForm eAby cAby, h.reads_pagedForm eAbx cAbx, List.forall_mem_nil _⟩

/-! ### ADC and SBC (R180, R183, R184, R249) -/

theorem addToA_leaves :
    Leaves addToA fun m s t => Added s.a m (getFlag .c s.p) s t ∧ t.x = s.x ∧ t.y = s.y where
  computes _ _ := rfl
  post _ := fun ⟨ua, ux, uy, up⟩ ⟨ha, hx, hy, hp⟩ =>
    ⟨up ▸ added_of_addToA ha hp ua fun _ _ => up ▸ rfl, hx.trans ux, hy.trans uy⟩

/-- Settles O3: each form hands its operand to the adder. -/
theorem adcAddsWithCarry : Obligations.AdcAddsWithCarry :=
  fun _ _ _ _ => addToA_leaves.reads_eightModes 0x60 rfl rfl

/-- The inverted operand in numbers. -/
theorem xor_FF_eq : ∀ m : Byte, m ^^^ 0xFF#8 = BitVec.ofNat 8 (255 - m.toNat) := by decide

/-- Adding the inverted operand and 1 subtracts, with the carry of a comparison (R184). -/
theorem Added.sub {a m : Byte} {s t : State} (h : Added a (BitVec.ofNat 8 (255 - m.toNat)) true s t) :
    t.a = a - m ∧ getFlag .c t.p = decide (m.toNat ≤ a.toNat) := by
  obtain ⟨hsum, hcarry, -⟩ := h
  have hm : (BitVec.ofNat 8 (255 - m.toNat)).toNat = 255 - m.toNat := by rw [BitVec.toNat_ofNat]; omega
  rw [hm, Bool.toNat_true] at hsum hcarry
  refine ⟨BitVec.eq_of_toNat_eq ?_, hcarry.trans (decide_eq_decide.2 ?_)⟩
  · rw [hsum, BitVec.toNat_sub]
    omega
  · omega

theorem subtractFromA_leaves :
    Leaves subtractFromA fun m s t =>
      Added s.a (BitVec.ofNat 8 (255 - m.toNat)) (getFlag .c s.p) s t ∧ t.x = s.x ∧ t.y = s.y ∧
        (getFlag .c s.p = true → t.a = s.a - m ∧ getFlag .c t.p = decide (m.toNat ≤ s.a.toNat)) where
  computes _ _ := rfl
  post m := fun hu ht => by
    obtain ⟨hadd, hx, hy⟩ := addToA_leaves.post (m ^^^ 0xFF#8) hu ht
    rw [xor_FF_eq] at hadd
    exact ⟨hadd, hx, hy, fun hc => (hc ▸ hadd).sub⟩

/-- Settles O4: each form hands its operand, inverted, to the adder. -/
theorem sbcAddsTheInvertedOperand : Obligations.SbcAddsTheInvertedOperand := by
  intro s z n w
  have h := subtractFromA_leaves
  have eight := h.reads_eightModes (s := s) (z := z) (n := n) (w := w) (izx := .sbcIzx z) (zp0 := .sbcZp0 z)
    (imm := .sbcImm n) (abs := .sbcAbs w) (izy := .sbcIzy z) (zpx := .sbcZpx z) (aby := .sbcAby w) (abx := .sbcAbx w)
    0xE0 rfl rfl
  simp only [List.forall_mem_cons] at eight ⊢
  obtain ⟨izx, zp0, imm, rest⟩ := eight
  exact ⟨izx, zp0, imm, h.reads_immForm rfl rfl, rest⟩

/-! ### AND, ORA, EOR and BIT (R185 to R188) -/

/-- The three operations differ in the combination `g` alone. -/
theorem combineIntoA_leaves (g : Byte → Byte → Byte) :
    Leaves (fun m u => setZN (g u.a m) (setA (g u.a m) u)) fun m s t =>
      t.a = g s.a m ∧ t.x = s.x ∧ t.y = s.y ∧ ShowsZN (g s.a m) t ∧ FlagsKept [.z, .n] s t where
  computes _ _ := rfl
  post _ := fun ⟨ua, ux, uy, up⟩ ⟨ha, hx, hy, hp⟩ =>
    ⟨ua ▸ ha, hx.trans ux, hy.trans uy, flags_of_putZN (ua ▸ hp) up⟩

/-- Settles O5: each form hands its operand to its combination. -/
theorem logicCombinesIntoA : Obligations.LogicCombinesIntoA :=
  ⟨fun _ _ _ _ => (combineIntoA_leaves (· &&& ·)).reads_eightModes 0x20 rfl rfl,
    fun _ _ _ _ => (combineIntoA_leaves (· ||| ·)).reads_eightModes 0x00 rfl rfl,
    fun _ _ _ _ => (combineIntoA_leaves (· ^^^ ·)).reads_eightModes 0x40 rfl rfl⟩

/-- The flags of BIT (R188). -/
theorem getFlag_bitTest (f : Flag) (m : Byte) (u : State) : getFlag f (bitTest m u).p =
    if f = .n then m.getLsbD 7 else if f = .v then m.getLsbD 6 else if f = .z then u.a &&& m == 0#8
    else getFlag f u.p := by
  simp [bitTest, setFlag]

theorem bitTest_leaves :
    Leaves bitTest fun m s t => t.a = s.a ∧ t.x = s.x ∧ t.y = s.y ∧ getFlag .z t.p = (s.a &&& m == 0#8) ∧
      getFlag .v t.p = m.getLsbD 6 ∧ getFlag .n t.p = m.getLsbD 7 ∧ FlagsKept [.z, .v, .n] s t where
  computes _ _ := rfl
  post m := fun ⟨ua, ux, uy, up⟩ ⟨ha, hx, hy, hp⟩ => by
    have hflag (f : Flag) := (congrArg (getFlag f) hp).trans (getFlag_bitTest f m _)
    rw [ua, up] at hflag
    refine ⟨ha.trans ua, hx.trans ux, hy.trans uy, hflag .z, hflag .v, hflag .n, fun f hf => ?_⟩
    simp only [List.mem_cons, List.not_mem_nil, or_false, not_or] at hf
    obtain ⟨hz, hv, hn⟩ := hf
    rw [hflag, if_neg hn, if_neg hv, if_neg hz]

/-- Settles O6: both forms hand their operand to `bitTest`. -/
theorem bitTestsWithoutWritingA : Obligations.BitTestsWithoutWritingA := by
  intro s z w
  simp only [List.forall_mem_cons]
  exact ⟨bitTest_leaves.reads_memForm rfl rfl rfl, bitTest_leaves.reads_memForm rfl rfl rfl, List.forall_mem_nil _⟩

/-! ### Comparisons (R181, R189 to R191) -/

/-- A comparison of one of A, X and Y. -/
theorem compare_leaves {r : State → Byte} (hr : ∀ {s u}, SameAxyp s u → r u = r s) :
    Leaves (fun m u => compareBytes (r u) m u) fun m s t =>
      Compared (r s) m s t ∧ t.a = s.a ∧ t.x = s.x ∧ t.y = s.y where
  computes _ _ := rfl
  post _ := fun hu ⟨ha, hx, hy, hp⟩ => by
    rw [hr hu] at hp
    obtain ⟨ua, ux, uy, up⟩ := hu
    exact ⟨compared_of_compareBytes hp fun _ _ => up ▸ rfl, ha.trans ua, hx.trans ux, hy.trans uy⟩

/-- Settles O7: each form compares its register with its operand. -/
theorem comparesSetCarryWhenNotBelow : Obligations.ComparesSetCarryWhenNotBelow := by
  refine ⟨fun _ _ _ _ => ?cmp, fun s z n w => ?cpx, fun s z n w => ?cpy⟩
  case cmp => exact (compare_leaves (r := State.a) fun ⟨ua, _⟩ => ua).reads_eightModes 0xC0 rfl rfl
  case cpx =>
    have h := compare_leaves (r := State.x) fun ⟨_, ux, _⟩ => ux
    simp only [List.forall_mem_cons]
    exact ⟨h.reads_immForm rfl rfl, h.reads_memForm rfl rfl rfl, h.reads_memForm rfl rfl rfl, List.forall_mem_nil _⟩
  case cpy =>
    have h := compare_leaves (r := State.y) fun ⟨_, _, uy, _⟩ => uy
    simp only [List.forall_mem_cons]
    exact ⟨h.reads_immForm rfl rfl, h.reads_memForm rfl rfl rfl, h.reads_memForm rfl rfl rfl, List.forall_mem_nil _⟩

/-! ### Forms that rewrite their operand -/

/-- `f` changes P alone and answers the byte `r` of its operand and P; `Q` says of the operand, the state before and the
state after what flags are left once Z and N of that byte are set. -/
structure Replaces (f : Byte → State → Byte × State) (r : Byte → Byte → Byte) (Q : Byte → State → State → Prop) :
    Prop where
  computes : ∀ v u, f v u = (r v u.p, setP (f v u).2.p u)
  post : ∀ v {s u t}, u.p = s.p → t.p = putZN (r v s.p) (f v u).2.p → Q v s t

namespace Replaces

variable {f : Byte → State → Byte × State} {r : Byte → Byte → Byte} {Q : Byte → State → State → Prop}

theorem rewrites_memForm (h : Replaces f r Q) {i : Instr} {code : Byte} {m : ModeResult} {base : Nat} {s : State}
    (he : exec i s = rmwInstr base m f setZN s) (hc : (encode i).head? = some code) :
    (memForm i code m base s).Rewrites (r (busValue m.ea s) s.p) s fun t =>
      t.a = s.a ∧ t.x = s.x ∧ t.y = s.y ∧ Q (busValue m.ea s) s t :=
  Form.rewrites_of_rmwInstr he hc (fun v u => congrArg Prod.snd (h.computes v u)) (fun _ _ => rfl)
    (fun u up => by rw [h.computes, up])
    fun _ _ _ ha hx hy hp ua ux uy up wp =>
      ⟨ha.trans ua, hx.trans ux, hy.trans uy, h.post _ wp (by rw [hp, ← up]; rfl)⟩

/-- The modes of the instructions that rewrite their byte, with opcode bytes as in `reads_eightModes` (R114). -/
theorem rewrites_fourModes (h : Replaces f r Q) (base : Byte) {zp0 abs zpx abx : Instr} {z : Byte} {w : Addr}
    {s : State}
    (he : [exec zp0 s, exec abs s, exec zpx s, exec abx s] =
      [rmwInstr 5 (modeZp0 z) f setZN s, rmwInstr 6 (modeAbs w) f setZN s, rmwInstr 6 (modeZpx z s) f setZN s,
        rmwInstr 7 (modeAbx w s) f setZN s])
    (hc : [zp0, abs, zpx, abx].map (fun i => (encode i).head?) =
      [0x06, 0x0E, 0x16, 0x1E].map (fun k => some (base + k))) :
    ∀ g ∈ [memForm zp0 (base + 0x06) (modeZp0 z) 5 s, memForm abs (base + 0x0E) (modeAbs w) 6 s,
        memForm zpx (base + 0x16) (modeZpx z s) 6 s, memForm abx (base + 0x1E) (modeAbx w s) 7 s],
      g.Rewrites (r g.value s.p) s fun t => t.a = s.a ∧ t.x = s.x ∧ t.y = s.y ∧ Q g.value s t := by
  simp only [List.cons.injEq, List.map_cons] at he hc
  obtain ⟨eZp0, eAbs, eZpx, eAbx, -⟩ := he
  obtain ⟨cZp0, cAbs, cZpx, cAbx, -⟩ := hc
  simp only [List.forall_mem_cons]
  exact ⟨h.rewrites_memForm eZp0 cZp0, h.rewrites_memForm eAbs cAbs, h.rewrites_memForm eZpx cZpx,
    h.rewrites_memForm eAbx cAbx, List.forall_mem_nil _⟩

end Replaces

/-! ### Increments and decrements (R192 to R197) -/

theorem add_one_eq (v : Byte) : v + 1#8 = BitVec.ofNat 8 (v.toNat + 1) := by bv_omega

theorem sub_one_eq (v : Byte) : v - 1#8 = BitVec.ofNat 8 (v.toNat + 255) := by bv_omega

/-- An operation that computes a byte and leaves the flags to `setZN`. -/
theorem replaces_of_byte {f : Byte → State → Byte × State} {r : Byte → Byte} (hf : ∀ v u, f v u = (r v, u)) :
    Replaces f (fun v _ => r v) fun v s t => ShowsZN (r v) t ∧ FlagsKept [.z, .n] s t where
  computes v u := by rw [hf]; rfl
  post v {s u t} up hp := by rw [hf] at hp; exact flags_of_putZN hp up

/-- Settles O8: each form hands its byte to the operation and writes the result back. -/
theorem incDecRewriteTheirByte : Obligations.IncDecRewriteTheirByte :=
  ⟨fun _ _ _ => (replaces_of_byte (f := increment) fun v _ => by rw [increment, add_one_eq]).rewrites_fourModes
      0xE0 rfl rfl,
    fun _ _ _ => (replaces_of_byte (f := decrement) fun v _ => by rw [decrement, sub_one_eq]).rewrites_fourModes
      0xC0 rfl rfl⟩

/-- Settles O9: each computes one register, and Z and N of it. -/
theorem indexRegistersStep : Obligations.IndexRegistersStep := by
  refine ⟨fun s => ?inx, fun s => ?iny, fun s => ?dex, fun s => ?dey⟩
  case inx | iny =>
    exact implied_of_registers rfl rfl ⟨⟨rfl, rfl, rfl⟩, add_one_eq _, rfl, rfl, rfl, flags_of_putZN rfl rfl⟩
  case dex | dey =>
    exact implied_of_registers rfl rfl ⟨⟨rfl, rfl, rfl⟩, sub_one_eq _, rfl, rfl, rfl, flags_of_putZN rfl rfl⟩

/-! ### Shifts and rotates (R182, R198 to R205) -/

/-- `f` computes the byte `r` of its operand and the carry, and puts the bit `out` of its operand into the carry. -/
def ShiftsThroughCarry (f : Byte → State → Byte × State) (r : Byte → Bool → Byte) (out : Nat) : Prop :=
  ∀ v u, f v u = (r v (getFlag .c u.p), setFlag .c (v.getLsbD out) u)

/-- A replaced by the byte `r` of A and the carry, with the bit `out` of A in C and Z and N of the result. -/
def shiftedA (r : Byte → Bool → Byte) (out : Nat) (s : State) : State :=
  { s with a := r s.a (getFlag .c s.p), fetched := s.a,
           p := putZN (r s.a (getFlag .c s.p)) (putFlag .c (s.a.getLsbD out) s.p) }

theorem shiftLeft_shifts : ShiftsThroughCarry shiftLeft (fun v _ => shiftedLeft v false) 7 :=
  fun v u => Prod.ext (shiftLeft_fst v u) rfl

theorem shiftRight_shifts : ShiftsThroughCarry shiftRight (fun v _ => shiftedRight v false) 0 :=
  fun v u => Prod.ext (shiftRight_fst v u) rfl

theorem rotateLeft_shifts : ShiftsThroughCarry rotateLeft shiftedLeft 7 :=
  fun v u => Prod.ext (rotateLeft_fst v u) rfl

theorem rotateRight_shifts : ShiftsThroughCarry rotateRight shiftedRight 0 :=
  fun v u => Prod.ext (rotateRight_fst v u) rfl

/-- The flags of a shift: the carry, then Z and N of the result (R182). -/
theorem flags_of_putZN_putC {v : Byte} {b : Bool} {s t : State} (hp : t.p = putZN v (putFlag .c b s.p)) :
    getFlag .c t.p = b ∧ ShowsZN v t ∧ FlagsKept [.c, .z, .n] s t :=
  ⟨by simp [hp], showsZN_of hp, flagsKept_of_putZN_putC hp⟩

namespace ShiftsThroughCarry

variable {f : Byte → State → Byte × State} {r : Byte → Bool → Byte} {out : Nat}

theorem replaces (h : ShiftsThroughCarry f r out) :
    Replaces f (fun v p => r v (getFlag .c p)) fun v s t =>
      getFlag .c t.p = v.getLsbD out ∧ ShowsZN (r v (getFlag .c s.p)) t ∧ FlagsKept [.c, .z, .n] s t where
  computes v u := by rw [h]; rfl
  post v {s u t} up hp := by rw [h, ← up] at hp; exact up ▸ flags_of_putZN_putC (hp.trans (by rw [← up]; rfl))

/-- The accumulator form reads A into `fetched` and writes the result to A (R153, R154). -/
theorem accInstr_eq (h : ShiftsThroughCarry f r out) (n : Nat) (s : State) :
    accInstr n f s = finish n 0 (shiftedA r out s) := by
  rw [accInstr, h]
  rfl

theorem implied_acc (h : ShiftsThroughCarry f r out) {i : Instr} {op : Byte} {s : State}
    (he : exec i s = accInstr 2 f s) (hc : (encode i).head? = some op) :
    Implied i op 2 s fun t => t.a = r s.a (getFlag .c s.p) ∧ getFlag .c t.p = s.a.getLsbD out ∧ ShowsZN t.a t ∧
      FlagsKept [.c, .z, .n] s t ∧ t.x = s.x ∧ t.y = s.y ∧ t.sp = s.sp ∧ t.pc = s.pc ∧ t.ea = s.ea ∧
      t.fetched = s.a := by
  obtain ⟨hcarry, hzn, hkept⟩ := flags_of_putZN_putC (s := s) (t := finished 2 (shiftedA r out s)) rfl
  exact ⟨hc, _, he.trans (h.accInstr_eq 2 s), ⟨rfl, hcarry, hzn, hkept, rfl, rfl, rfl, rfl, rfl, rfl⟩, ⟨rfl, rfl⟩,
    ⟨⟨rfl, rfl, rfl, rfl⟩, ⟨rfl, rfl, rfl⟩, rfl, rfl, rfl⟩, readsSame_of_eq rfl rfl, rfl, rfl, rfl, rfl, rfl, rfl⟩

end ShiftsThroughCarry

/-- Settles O10: each form hands its byte to the shift and writes the result back. -/
theorem shiftsRewriteTheirByte : Obligations.ShiftsRewriteTheirByte :=
  ⟨fun _ _ _ => shiftLeft_shifts.replaces.rewrites_fourModes 0x00 rfl rfl,
    fun _ _ _ => shiftRight_shifts.replaces.rewrites_fourModes 0x40 rfl rfl,
    fun _ _ _ => rotateLeft_shifts.replaces.rewrites_fourModes 0x20 rfl rfl,
    fun _ _ _ => rotateRight_shifts.replaces.rewrites_fourModes 0x60 rfl rfl⟩

/-- Settles O11: each hands A to the shift. -/
theorem accumulatorShifts : Obligations.AccumulatorShifts :=
  ⟨fun _ => shiftLeft_shifts.implied_acc rfl rfl, fun _ => shiftRight_shifts.implied_acc rfl rfl,
    fun _ => rotateLeft_shifts.implied_acc rfl rfl, fun _ => rotateRight_shifts.implied_acc rfl rfl⟩

/-! ### The laws (R207) -/

/-- What ADC #m leaves, of O3. -/
theorem exec_adcImm (m : Byte) (s : State) :
    ∃ t, exec (.adcImm m) s = .next t ∧ Added s.a m (getFlag .c s.p) s t := by
  obtain ⟨-, t, he, ⟨hadd, -⟩, -⟩ := adcAddsWithCarry s 0 m 0 (immForm (.adcImm m) 0x69 m s) (by simp)
  exact ⟨t, he, hadd⟩

/-- What SBC #m leaves with C = 1, of O4. -/
theorem exec_sbcImm {m : Byte} {s : State} (hc : getFlag .c s.p = true) :
    ∃ t, exec (.sbcImm m) s = .next t ∧ t.a = s.a - m ∧ getFlag .c t.p = decide (m.toNat ≤ s.a.toNat) := by
  obtain ⟨-, t, he, ⟨-, -, -, hsub⟩, -⟩ := sbcAddsTheInvertedOperand s 0 m 0 (immForm (.sbcImm m) 0xE9 m s) (by simp)
  exact ⟨t, he, hsub hc⟩

/-- What CMP #m leaves, of O7. -/
theorem exec_cmpImm (m : Byte) (s : State) :
    ∃ t, exec (.cmpImm m) s = .next t ∧ Compared s.a m s t := by
  obtain ⟨-, t, he, ⟨hcmp, -⟩, -⟩ := comparesSetCarryWhenNotBelow.1 s 0 m 0 (immForm (.cmpImm m) 0xC9 m s) (by simp)
  exact ⟨t, he, hcmp⟩

theorem and_80_ne_zero : ∀ v : Byte, (v &&& 0x80#8 != 0#8) = v.getLsbD 7 := by decide

/-- The overflow formula by sign bits: equal ones give the other one. -/
theorem overflow_iff (a m r : Byte) : ((a ^^^ r) &&& (m ^^^ r) &&& 0x80#8 != 0#8) = true ↔
    a.getLsbD 7 = m.getLsbD 7 ∧ r.getLsbD 7 ≠ a.getLsbD 7 := by
  rw [and_80_ne_zero, BitVec.getLsbD_and, BitVec.getLsbD_xor, BitVec.getLsbD_xor]
  generalize a.getLsbD 7 = x, m.getLsbD 7 = y, r.getLsbD 7 = z
  revert x y z
  decide

/-- A right rotate undoes a left one: the bit shifted out comes back in, the carry shifted in comes back out. -/
theorem shiftedRight_shiftedLeft : ∀ (c : Bool) (v : Byte),
    shiftedRight (shiftedLeft v c) (v.getLsbD 7) = v ∧ (shiftedLeft v c).getLsbD 0 = c := by decide

/-- Settles O33: each law from what the instructions of O3, O4, O7 and O11 leave. -/
theorem arithmeticLaws : Obligations.ArithmeticLaws := by
  refine ⟨fun s m => ?adcSbc, fun s m hc => ?sbcCmp, fun s m => ?overflow, fun s => ?rolRor, fun s hc => ?noCarry,
    fun s v => showsZN_of rfl⟩
  case adcSbc =>
    obtain ⟨t, het, hsum, -⟩ := exec_adcImm m (setFlag .c false s)
    obtain ⟨u, heu, hdiff, -⟩ := exec_sbcImm (m := m) (s := setFlag .c true t) (getFlag_putFlag .c .c true t.p)
    have hc : getFlag .c (setFlag .c false s).p = false := getFlag_putFlag .c .c false s.p
    have hta : t.a = s.a + m := by
      apply BitVec.eq_of_toNat_eq
      rw [hsum, hc, BitVec.toNat_add]
      rfl
    exact ⟨t, u, het, heu, by rw [hdiff, setFlag_a, hta, BitVec.add_sub_cancel]⟩
  case sbcCmp =>
    obtain ⟨t, het, -, htc⟩ := exec_sbcImm (m := m) hc
    obtain ⟨u, heu, huc, -⟩ := exec_cmpImm m s
    exact ⟨t, u, het, heu, htc, huc.trans htc.symm⟩
  case overflow =>
    obtain ⟨t, het, -, -, hv, -⟩ := exec_adcImm m s
    exact ⟨t, het, by rw [hv]; exact overflow_iff s.a m t.a⟩
  case rolRor =>
    obtain ⟨-, -, rol, ror⟩ := accumulatorShifts
    obtain ⟨-, t, het, ⟨hta, htc, -⟩, -⟩ := rol s
    obtain ⟨-, u, heu, ⟨hua, huc, -⟩, -⟩ := ror t
    obtain ⟨ha, hc⟩ := shiftedRight_shiftedLeft (getFlag .c s.p) s.a
    exact ⟨t, u, het, heu, by rw [hua, htc, hta, ha], by rw [huc, hta, hc]⟩
  case noCarry =>
    change accInstr 2 shiftLeft s = accInstr 2 rotateLeft s ∧ accInstr 2 shiftRight s = accInstr 2 rotateRight s
    rw [shiftLeft_shifts.accInstr_eq, rotateLeft_shifts.accInstr_eq, shiftRight_shifts.accInstr_eq,
      rotateRight_shifts.accInstr_eq]
    simp only [shiftedA, hc, and_self]

end Sys2Proof.Machine
end

section
/-! PROOFS. Subroutines, exceptions, flag instructions and no-operations (O16 to O19): one lemma for every instruction
that pushes or pulls and loads the PC, one for a flag written, one for an effective address left unread. -/

namespace Sys2Proof.Machine

/-! ### Several bytes pushed (R22) -/

/-- A memory after pushes, listed as in `StackStored`: the later ones first. -/
def pushedOnto (m : Memory) : List (Byte × Byte) → Memory
  | [] => m
  | (k, v) :: earlier => (pushedOnto m earlier).write (256 + k.toNat) v

theorem wf_pushedOnto {m : Memory} (hw : m.wf ramSize = true) (pushes : List (Byte × Byte)) :
    (pushedOnto m pushes).wf ramSize = true := by
  induction pushes with
  | nil => exact hw
  | cons q earlier ih => exact wf_write_stack ih q.1 q.2

theorem stackStored_of_pushedOnto {s t : State} (hw : s.ram.wf ramSize = true) (pushes : List (Byte × Byte))
    (hr : t.ram = pushedOnto s.ram pushes) (hc : t.cart = s.cart) : StackStored pushes s t := by
  induction pushes generalizing t with
  | nil => exact stackStored_nil hr hc
  | cons q earlier ih =>
    exact stackStored_cons (u := { s with ram := pushedOnto s.ram earlier }) (wf_pushedOnto hw earlier) (ih rfl rfl)
      hr hc

/-- An instruction that pushes, or pulls, and changes PC, `ea`, SP and P besides completes. -/
theorem stacked_of_pushedOnto {i : Instr} {op sp p : Byte} {n : Nat} {pc ea : Addr} {pushes : List (Byte × Byte)}
    {s : State} {P : State → Prop}
    (he : exec i s = finish n 0 { s with ram := pushedOnto s.ram pushes, pc := pc, ea := ea, sp := sp, p := p })
    (hc : (encode i).head? = some op)
    (hP : P (finished n { s with ram := pushedOnto s.ram pushes, pc := pc, ea := ea, sp := sp, p := p })) :
    Stacked i op n pushes s P :=
  ⟨hc, _, he, hP, ⟨rfl, rfl⟩, rfl, rfl, rfl, ⟨rfl, rfl, rfl⟩, ⟨rfl, rfl, rfl⟩, ⟨rfl, rfl, rfl, rfl, rfl, rfl⟩,
    fun h => congrArg (pushedOnto s.ram) h, fun hw => stackStored_of_pushedOnto hw pushes rfl rfl⟩

/-! ### JSR and RTS (R221, R222) -/

theorem exec_jsr (w : Addr) (s : State) : exec (.jsr w) s = finish 6 0
    { s with
      ram := pushedOnto s.ram [(s.sp - 1#8, loByte (s.pc - 1#16)), (s.sp, hiByte (s.pc - 1#16))]
      pc := w, ea := w, sp := s.sp - 2#8 } := by
  change finish 6 0 (jumpToSubroutine w s) = _
  simp only [jumpToSubroutine, push_eq, setEa_sp, setEa_ram, BitVec.sub_sub]
  rfl

theorem exec_rts (s : State) : exec .rts s = finish 6 0
    { s with pc := addrOf (stackByte (s.sp + 2#8) s) (stackByte (s.sp + 1#8) s) + 1#16, sp := s.sp + 2#8 } := by
  change finish 6 0 (returnFromSubroutine s) = _
  simp only [returnFromSubroutine, pull_eq, stackByte_eq, BitVec.add_assoc]
  rfl

/-- Settles O16: JSR pushes two bytes, RTS pulls two. -/
theorem subroutineCallAndReturn : Obligations.SubroutineCallAndReturn := by
  refine ⟨fun s w => ⟨rfl, stacked_of_pushedOnto (exec_jsr w s) rfl ⟨rfl, rfl, rfl, rfl, rfl, rfl, rfl, rfl⟩⟩,
    fun s => stacked_of_pushedOnto (pushes := []) (exec_rts s) rfl ⟨?pc, rfl, rfl, rfl, rfl, rfl, rfl, rfl⟩⟩
  case pc =>
    change (addrOf (stackByte (s.sp + 2#8) s) (stackByte (s.sp + 1#8) s) + 1#16).toNat = _
    rw [BitVec.toNat_add, addrOf_toNat]
    rfl

/-! ### One flag written (R23) -/

theorem flagsKept_of_putFlag {f : Flag} {b : Bool} {s t : State} (hp : t.p = putFlag f b s.p) : FlagsKept [f] s t := by
  intro g hg
  rw [hp, getFlag_putFlag, if_neg (List.mem_singleton.not.1 hg)]

/-! ### BRK and RTI (R224, R223) -/

theorem exec_brk (s : State) : exec .brk s = finish 7 0
    { s with
      ram := pushedOnto s.ram
        [(s.sp - 2#8, pushedByInstruction s.p), (s.sp - 1#8, loByte (s.pc + 1#16)), (s.sp, hiByte (s.pc + 1#16))]
      pc := addrOf (busValue 0xFFFF#16 s) (busValue 0xFFFE#16 s), sp := s.sp - 3#8, p := putFlag .i true s.p } := by
  obtain ⟨-, -, h0, h1, -⟩ := regionOf_vectors
  change finish 7 0 (takeException (s.pc + 1#16) (pushedByInstruction s.p) irqVector s) = _
  rw [takeException_eq _ _ _ h0 h1]
  simp only [BitVec.sub_sub]
  rfl

theorem exec_rti (s : State) : exec .rti s = finish 6 0
    { s with
      pc := addrOf (stackByte (s.sp + 3#8) s) (stackByte (s.sp + 2#8) s), sp := s.sp + 3#8
      p := pulledStatus (stackByte (s.sp + 1#8) s) } := by
  change finish 6 0 (returnFromException s) = _
  simp only [returnFromException_eq, stackByte_eq, BitVec.add_assoc]
  rfl

/-- Settles O17: BRK pushes three bytes, sets I and loads the vector; RTI pulls three. -/
theorem brkEntersAndRtiReturns : Obligations.BrkEntersAndRtiReturns := by
  refine ⟨fun s => stacked_of_pushedOnto (exec_brk s) rfl ?brk,
    fun s => stacked_of_pushedOnto (pushes := []) (exec_rti s) rfl ?rti⟩
  case brk =>
    exact ⟨addrOf_toNat _ _, rfl, getFlag_putFlag .i .i true s.p, flagsKept_of_putFlag rfl, rfl, rfl, rfl, rfl, rfl⟩
  case rti => exact ⟨rfl, addrOf_toNat _ _, rfl, rfl, rfl, rfl, rfl, rfl⟩

/-! ### The flag instructions (R225 to R231) -/

theorem implied_setFlag {i : Instr} {op : Byte} {f : Flag} {b : Bool} {s : State}
    (he : exec i s = finish 2 0 (setFlag f b s)) (hc : (encode i).head? = some op) :
    Implied i op 2 s fun t => SameWorking s t ∧ SameRegisters s t ∧ getFlag f t.p = b ∧ FlagsKept [f] s t :=
  implied_of_registers he hc ⟨⟨rfl, rfl, rfl⟩, ⟨rfl, rfl, rfl, rfl⟩, (getFlag_putFlag f f b s.p).trans (if_pos rfl),
    flagsKept_of_putFlag rfl⟩

/-- Settles O18: each writes its flag. -/
theorem flagInstructionsWriteOneFlag : Obligations.FlagInstructionsWriteOneFlag :=
  ⟨fun _ => implied_setFlag rfl rfl, fun _ => implied_setFlag rfl rfl, fun _ => implied_setFlag rfl rfl,
    fun _ => implied_setFlag rfl rfl, fun _ => implied_setFlag rfl rfl, fun _ => implied_setFlag rfl rfl,
    fun _ => implied_setFlag rfl rfl⟩

/-! ### The no-operations (R232, R250, R251) -/

/-- The form changes `ea`, the cycles owed and the instruction count alone. -/
def StoreForm.LeavesOnlyEa (f : StoreForm) (s : State) : Prop :=
  (encode f.i).head? = some f.op ∧
  exec f.i s = .next { s with ea := f.ea, remaining := f.cycles, instructions := s.instructions + 1#64 }

/-- A NOP with an operand pays for the page its mode crosses (R134, R251). -/
theorem leavesOnlyEa_of_nopInstr {i : Instr} {code : Byte} {m : ModeResult} (base : Nat) {s : State}
    (he : exec i s = nopInstr base m s) (hc : (encode i).head? = some code) :
    (storeForm i code m (base + if m.crossed then 1 else 0)).LeavesOnlyEa s := by
  refine ⟨hc, he.trans ?_⟩
  rw [nopInstr, extraCycle, Bool.and_true]
  rfl

/-- Settles O19: a one-byte NOP owes 2 cycles, one with an operand leaves its address besides. -/
theorem noOperationsChangeNothing : Obligations.NoOperationsChangeNothing := by
  refine ⟨fun s => ?bare, fun s z n w => ?operand⟩ <;> simp only [List.forall_mem_cons]
  case bare =>
    exact ⟨⟨rfl, rfl⟩, ⟨rfl, rfl⟩, ⟨rfl, rfl⟩, ⟨rfl, rfl⟩, ⟨rfl, rfl⟩, ⟨rfl, rfl⟩, ⟨rfl, rfl⟩, List.forall_mem_nil _⟩
  case operand =>
    exact ⟨leavesOnlyEa_of_nopInstr 3 rfl rfl, leavesOnlyEa_of_nopInstr 4 rfl rfl, leavesOnlyEa_of_nopInstr 4 rfl rfl,
      leavesOnlyEa_of_nopInstr 4 rfl rfl, leavesOnlyEa_of_nopInstr 4 rfl rfl, leavesOnlyEa_of_nopInstr 4 rfl rfl,
      leavesOnlyEa_of_nopInstr 3 rfl rfl, leavesOnlyEa_of_nopInstr 4 rfl rfl, leavesOnlyEa_of_nopInstr 4 rfl rfl,
      leavesOnlyEa_of_nopInstr 3 rfl rfl, leavesOnlyEa_of_nopInstr 4 rfl rfl, leavesOnlyEa_of_nopInstr 4 rfl rfl,
      leavesOnlyEa_of_nopInstr 2 rfl rfl, leavesOnlyEa_of_nopInstr 2 rfl rfl, leavesOnlyEa_of_nopInstr 2 rfl rfl,
      leavesOnlyEa_of_nopInstr 2 rfl rfl, leavesOnlyEa_of_nopInstr 4 rfl rfl, leavesOnlyEa_of_nopInstr 4 rfl rfl,
      leavesOnlyEa_of_nopInstr 2 rfl rfl, leavesOnlyEa_of_nopInstr 4 rfl rfl, leavesOnlyEa_of_nopInstr 4 rfl rfl,
      List.forall_mem_nil _⟩

end Sys2Proof.Machine
end

section
/-! PROOFS. The unofficial combined instructions and the illegal bytes (O20, O21, O22): what an operation leaves that
comes after a write-back, for the seven modes the combined instructions share, and the answer to an illegal byte. -/

namespace Sys2Proof.Machine

/-! ### A write-back, then an operation on the byte written (R62, R243 to R248) -/

/-- `f` changes P alone: it answers the byte `r` and the flags `g` of its operand and P. -/
def ComputesByte (f : Byte → State → Byte × State) (r g : Byte → Byte → Byte) : Prop :=
  ∀ v u, f v u = (r v u.p, setP (g v u.p) u)

theorem Form.Rewrites.imp {f : Form} {r : Byte} {s : State} {P P' : State → Prop} (h : f.Rewrites r s P)
    (hP : ∀ t, P t → P' t) : f.Rewrites r s P' := by
  obtain ⟨hc, t, he, ht, hframe⟩ := h
  exact ⟨hc, t, he, hP t ht, hframe⟩

namespace Leaves

variable {f : Byte → State → Byte × State} {r g : Byte → Byte → Byte} {op : Byte → State → State}
  {Q : Byte → State → State → Prop} {s : State}

/-- After the write-back the operation sees the byte written, and the registers of `s` with the flags `f` left. -/
theorem rewrites_memForm (h : Leaves op Q) (hf : ComputesByte f r g) {i : Instr} {code : Byte} {m : ModeResult}
    {base : Nat} (he : exec i s = rmwInstr base m f op s) (hc : (encode i).head? = some code) :
    (memForm i code m base s).Rewrites (r (busValue m.ea s) s.p) s
      (Q (r (busValue m.ea s) s.p) (setP (g (busValue m.ea s) s.p) s)) :=
  Form.rewrites_of_rmwInstr he hc (fun v u => by rw [hf]; rfl) h.computes (fun u up => by rw [hf, up])
    fun _ _ _ ha hx hy hp ua ux uy up wp =>
      h.post _ ⟨ua, ux, uy, by rw [up, hf, wp]; rfl⟩ ⟨ha, hx, hy, hp⟩

/-- The modes of DCP, ISC, SLO, RLA, SRE and RRA: the opcode bytes are one base plus an offset that the mode gives
(R114). -/
theorem rewrites_sevenModes (h : Leaves op Q) (hf : ComputesByte f r g) (base : Byte)
    {izx zp0 abs izy zpx aby abx : Instr} {z : Byte} {w : Addr}
    (he : [exec izx s, exec zp0 s, exec abs s, exec izy s, exec zpx s, exec aby s, exec abx s] =
      [rmwInstr 8 (modeIzx z s) f op s, rmwInstr 5 (modeZp0 z) f op s, rmwInstr 6 (modeAbs w) f op s,
        rmwInstr 8 (modeIzy z s) f op s, rmwInstr 6 (modeZpx z s) f op s, rmwInstr 7 (modeAby w s) f op s,
        rmwInstr 7 (modeAbx w s) f op s])
    (hc : [izx, zp0, abs, izy, zpx, aby, abx].map (fun i => (encode i).head?) =
      [0x03, 0x07, 0x0F, 0x13, 0x17, 0x1B, 0x1F].map (fun k => some (base + k))) :
    ∀ q ∈ [memForm izx (base + 0x03) (modeIzx z s) 8 s, memForm zp0 (base + 0x07) (modeZp0 z) 5 s,
        memForm abs (base + 0x0F) (modeAbs w) 6 s, memForm izy (base + 0x13) (modeIzy z s) 8 s,
        memForm zpx (base + 0x17) (modeZpx z s) 6 s, memForm aby (base + 0x1B) (modeAby w s) 7 s,
        memForm abx (base + 0x1F) (modeAbx w s) 7 s],
      q.Rewrites (r q.value s.p) s (Q (r q.value s.p) (setP (g q.value s.p) s)) := by
  simp only [List.cons.injEq, List.map_cons] at he hc
  obtain ⟨eIzx, eZp0, eAbs, eIzy, eZpx, eAby, eAbx, -⟩ := he
  obtain ⟨cIzx, cZp0, cAbs, cIzy, cZpx, cAby, cAbx, -⟩ := hc
  simp only [List.forall_mem_cons]
  exact ⟨h.rewrites_memForm hf eIzx cIzx, h.rewrites_memForm hf eZp0 cZp0, h.rewrites_memForm hf eAbs cAbs,
    h.rewrites_memForm hf eIzy cIzy, h.rewrites_memForm hf eZpx cZpx, h.rewrites_memForm hf eAby cAby,
    h.rewrites_memForm hf eAbx cAbx, List.forall_mem_nil _⟩

end Leaves

/-! ### DCP and ISC (R243, R244) -/

theorem decremented_computesByte :
    ComputesByte decremented (fun v _ => BitVec.ofNat 8 (v.toNat + 255)) (fun _ p => p) :=
  fun v _ => by rw [decremented, sub_one_eq]; rfl

theorem incremented_computesByte :
    ComputesByte incremented (fun v _ => BitVec.ofNat 8 (v.toNat + 1)) (fun _ p => p) :=
  fun v _ => by rw [incremented, add_one_eq]; rfl

/-- Settles O20: DCP hands the byte it wrote to the comparison with A, ISC hands it, inverted, to the adder. -/
theorem dcpAndIscRewriteThenCompareOrSubtract : Obligations.DcpAndIscRewriteThenCompareOrSubtract := by
  refine ⟨fun s z w => ?dcp, fun s z w f hf => ?isc⟩
  case dcp =>
    exact (compare_leaves (r := State.a) fun ⟨ua, _⟩ => ua).rewrites_sevenModes decremented_computesByte 0xC0 rfl rfl
  case isc =>
    exact (subtractFromA_leaves.rewrites_sevenModes incremented_computesByte 0xE0 rfl rfl f hf).imp
      fun _ ⟨hadd, hx, hy, _⟩ => ⟨hadd, hx, hy⟩

/-! ### SLO, RLA, SRE and RRA (R245 to R248) -/

/-- Flags kept since `g` was written: all but `g` are kept since before. -/
theorem FlagsKept.of_setFlag {l l' : List Flag} {g : Flag} {b : Bool} {s t : State}
    (h : FlagsKept l (setFlag g b s) t) (hl : g :: l ⊆ l') : FlagsKept l' s t := by
  intro f hf
  have hfl : f ∉ g :: l := fun hm => hf (hl hm)
  rw [List.mem_cons, not_or] at hfl
  obtain ⟨hne, hfl⟩ := hfl
  exact (h f hfl).trans ((getFlag_putFlag f g b s.p).trans (if_neg hne))

/-- A flag that is kept since it was written holds what was written. -/
theorem FlagsKept.getFlag_of_setFlag {l : List Flag} {g : Flag} {b : Bool} {s t : State}
    (h : FlagsKept l (setFlag g b s) t) (hg : g ∉ l) : getFlag g t.p = b :=
  (h g hg).trans ((getFlag_putFlag g g b s.p).trans (if_pos rfl))

theorem ShiftsThroughCarry.computesByte {f : Byte → State → Byte × State} {r : Byte → Bool → Byte} {out : Nat}
    (h : ShiftsThroughCarry f r out) :
    ComputesByte f (fun v p => r v (getFlag .c p)) fun v p => putFlag .c (v.getLsbD out) p := h

/-- What SLO, RLA and SRE leave: the bit shifted out stays in C while Z and N come to describe A. -/
theorem combined_of_setFlag {v : Byte} {b : Bool} {s t : State}
    (h : t.a = v ∧ t.x = s.x ∧ t.y = s.y ∧ ShowsZN v t ∧ FlagsKept [.z, .n] (setFlag .c b s) t) :
    t.a = v ∧ t.x = s.x ∧ t.y = s.y ∧ getFlag .c t.p = b ∧ ShowsZN t.a t ∧ FlagsKept [.c, .z, .n] s t := by
  obtain ⟨ha, hx, hy, hzn, hkept⟩ := h
  exact ⟨ha, hx, hy, hkept.getFlag_of_setFlag (by decide), ha ▸ hzn, hkept.of_setFlag (List.Subset.refl _)⟩

/-- The adder after a rotate: the bit rotated out is its carry in (R248). -/
theorem Added.of_setFlag {a m : Byte} {b : Bool} {s t : State}
    (h : Added a m (getFlag .c (setFlag .c b s).p) (setFlag .c b s) t) : Added a m b s t := by
  have hcarry : getFlag .c (setFlag .c b s).p = b := getFlag_putFlag .c .c b s.p
  rw [hcarry] at h
  obtain ⟨hsum, hc, hv, hzn, hkept⟩ := h
  exact ⟨hsum, hc, hv, hzn, hkept.of_setFlag (by decide)⟩

/-- Settles O21: each hands the byte it wrote to its combination, or to the adder, with the bit shifted out in C. -/
theorem shiftCombinationsRewriteThenCombine : Obligations.ShiftCombinationsRewriteThenCombine := by
  refine ⟨fun s z w f hf => ?slo, fun s z w f hf => ?rla, fun s z w f hf => ?sre, fun s z w f hf => ?rra⟩
  case slo =>
    exact ((combineIntoA_leaves (· ||| ·)).rewrites_sevenModes shiftLeft_shifts.computesByte 0x00 rfl rfl f hf).imp
      fun _ => combined_of_setFlag (s := s)
  case rla =>
    exact ((combineIntoA_leaves (· &&& ·)).rewrites_sevenModes rotateLeft_shifts.computesByte 0x20 rfl rfl f hf).imp
      fun _ => combined_of_setFlag (s := s)
  case sre =>
    exact ((combineIntoA_leaves (· ^^^ ·)).rewrites_sevenModes shiftRight_shifts.computesByte 0x40 rfl rfl f hf).imp
      fun _ => combined_of_setFlag (s := s)
  case rra =>
    exact (addToA_leaves.rewrites_sevenModes rotateRight_shifts.computesByte 0x60 rfl rfl f hf).imp
      fun _ ⟨hadd, hx, hy⟩ => ⟨hadd.of_setFlag, hx, hy⟩

/-! ### The illegal bytes (R252, R253, R266) -/

theorem illegalInstr_of_halt {s : State} (op : Byte) (h : s.params.illegalOpcode = .halt) : illegalInstr op s =
    .next { s with fault := some (s.fault.getD (.illegalOpcode (s.pc - 1#16) op)), halted := true } := by
  rw [illegalInstr, h, raiseIllegalOpcode, recordFault_eq]

theorem illegalInstr_of_nop {s : State} (op : Byte) (h : s.params.illegalOpcode = .nop) : illegalInstr op s =
    finish 2 0 { s with fault := some (s.fault.getD (.illegalOpcode (s.pc - 1#16) op)) } := by
  rw [illegalInstr, h, raiseIllegalOpcode, recordFault_eq]

/-- Settles O22: each of the bytes is answered by `illegalInstr`; a halted system ticks and resets to a halted one. -/
theorem illegalBytesRecordTheFault : Obligations.IllegalBytesRecordTheFault := by
  intro s q hq
  have hcode : encode q.1 = [q.2] := List.map_inj_left (f := fun q => encode q.1) (g := fun q => [q.2]) |>.1 rfl q hq
  have hexec : exec q.1 s = illegalInstr q.2 s :=
    List.map_inj_left (f := fun q => exec q.1 s) (g := fun q => illegalInstr q.2 s) |>.1 rfl q hq
  refine ⟨hcode, _, rfl, fun hpolicy => ?halt, fun hpolicy => ?nop⟩ <;> rw [hexec]
  case halt =>
    exact ⟨_, illegalInstr_of_halt q.2 hpolicy, rfl, step_of_halted rfl, by rw [systemReset_eq], by rw [systemReset_eq]⟩
  case nop => exact illegalInstr_of_nop q.2 hpolicy

end Sys2Proof.Machine
end

section
/-! PROOFS. Reset and the interrupts (O57, O35, O36, O58): the values of a reset, the tick that ends at a boundary, what
it enters, and the ticks that drain a reset. -/

namespace Sys2Proof.Machine

/-! ### Reset (R260, R307) -/

/-- Settles O57: the reset in one record, its vector read in numbers. -/
theorem systemResetValues : Obligations.SystemResetValues :=
  fun s => ⟨_, addrOf_toNat _ _, systemReset_eq s⟩

/-! ### A tick that ends at a boundary (R302) -/

/-- The state of such a tick before its end: the PPU's dot, and on a CPU clock the last owed cycle drained. -/
def atBoundary (s : State) : State :=
  { ppuTick s with remaining := 0, cycles := s.cycles + (if s.master.toNat % 3 = 0 then 1#64 else 0#64) }

theorem step_of_endsAtBoundary {s : State} (h : EndsAtBoundary s) : step s = .next (endTick (atBoundary s)) := by
  obtain ⟨hh, ⟨hm, hr⟩ | ⟨hm, hr⟩⟩ := h
  · rw [step_off_cpu hh hm, atBoundary, if_neg hm, BitVec.add_zero, ← hr, ← ppuTick_remaining s, ← ppuTick_cycles s]
  · rw [step_draining hh hm (by omega), atBoundary, if_pos hm, countClock, ppuTick_remaining, hr, ppuTick_cycles]

theorem atBoundary_halted {s : State} (h : EndsAtBoundary s) : (atBoundary s).halted = false :=
  (ppuTick_halted s).trans h.1

theorem atBoundary_nmiPending (s : State) : (atBoundary s).nmiPending = NmiRequested s := ppuTick_nmiPending s
theorem atBoundary_irqLine (s : State) : (atBoundary s).irqLine = s.irqLine := ppuTick_irqLine s
theorem atBoundary_master (s : State) : (atBoundary s).master = s.master := ppuTick_master s
theorem atBoundary_flag (f : Flag) (s : State) : (atBoundary s).flag f = getFlag f s.p :=
  congrArg (getFlag f) (ppuTick_p s)

theorem endTick_of_running {u : State} (h : u.halted = false) :
    endTick u = { interruptCheck u with master := (interruptCheck u).master + 1#64 } := by
  simp only [endTick, h, Bool.false_eq_true, if_false]

/-- An interrupt entry in one record, the pushes listed as in `StackStored` (R261). -/
theorem interruptEntry_pushedOnto {v : Addr} (n : Nat) (u : State) (h0 : regionOf v = .prgRom)
    (h1 : regionOf (v + 1#16) = .prgRom) : interruptEntry v n u = { u with
      ram := pushedOnto u.ram
        [(u.sp - 2#8, (u.p &&& 0xEF#8) ||| 0x20#8), (u.sp - 1#8, loByte u.pc), (u.sp, hiByte u.pc)]
      sp := u.sp - 3#8
      p := putFlag .i true u.p
      pc := addrOf (busValue (v + 1#16) u) (busValue v u)
      remaining := n } := by
  rw [interruptEntry_eq n u h0 h1]
  simp only [BitVec.sub_sub, busValue, h0, h1]
  rfl

/-- What an interrupt entry leaves, whatever cycles were owed before it and whatever the clock, the NMI request and the
count of ticks are. -/
theorem entered_interruptEntry {v : Addr} {n r : Nat} {c m : BitVec 64} {b : Bool} {u : State}
    (h0 : regionOf v = .prgRom) (h1 : regionOf (v + 1#16) = .prgRom) :
    Entered v n u
      { interruptEntry v n { u with remaining := r, cycles := c, nmiPending := b } with master := m } := by
  have hv : ∀ a, regionOf a = .prgRom →
      busValue a { u with remaining := r, cycles := c, nmiPending := b } = busValue a u := fun a ha =>
    busValue_plain_congr rfl rfl (by simp [plainAddr, ha])
  rw [interruptEntry_pushedOnto n _ h0 h1, hv _ h0, hv _ h1]
  exact ⟨addrOf_toNat _ _, rfl, getFlag_putFlag .i .i true u.p, flagsKept_of_putFlag rfl, rfl, rfl, rfl, rfl, rfl, rfl,
    rfl, rfl, rfl, rfl, rfl, rfl, ⟨rfl, rfl, rfl⟩, rfl, rfl, rfl, rfl, fun hw => stackStored_of_pushedOnto hw _ rfl rfl⟩

/-- An interrupt entry touches neither the clock, the count of ticks nor the NMI request. -/
theorem interruptEntry_counts (v : Addr) (n : Nat) (u : State) :
    (interruptEntry v n u).nmiPending = u.nmiPending ∧ (interruptEntry v n u).master = u.master ∧
      (interruptEntry v n u).cycles = u.cycles :=
  have h := within_interruptEntry v n u
  ⟨h.nmiPending, h.master, h.cycles⟩

/-- Settles O35: at the boundary the pending request is cleared and the entry is through $FFFA. -/
theorem nmiEntry : Obligations.NmiEntry := by
  intro s hb hn
  obtain ⟨h0, h1, -⟩ := regionOf_vectors
  have hentry : interruptCheck (atBoundary s) = interruptEntry nmiVector 8 { atBoundary s with nmiPending := false } :=
    interruptCheck_nmi rfl ((atBoundary_nmiPending s).trans hn)
  obtain ⟨hnmi, hmaster, hcycles⟩ := interruptEntry_counts nmiVector 8 { atBoundary s with nmiPending := false }
  refine ⟨_, step_of_endsAtBoundary hb, ?_⟩
  rw [endTick_of_running (atBoundary_halted hb), hentry, hmaster]
  exact ⟨entered_interruptEntry h0 h1, hnmi, congrArg (· + 1#64) (atBoundary_master s), hcycles⟩

/-- Settles O36: without a request the entry is through $FFFE, and only if the line is asserted and I is clear. -/
theorem irqEntryOnlyWithIClear : Obligations.IrqEntryOnlyWithIClear := by
  intro s hb hn
  obtain ⟨-, -, h0, h1, -⟩ := regionOf_vectors
  have hp : (atBoundary s).nmiPending = false := (atBoundary_nmiPending s).trans hn
  refine ⟨_, step_of_endsAtBoundary hb, ?_⟩
  rw [endTick_of_running (atBoundary_halted hb)]
  by_cases htaken : s.irqLine = true ∧ getFlag .i s.p = false
  case pos =>
    obtain ⟨hline, hi⟩ := htaken
    obtain ⟨hnmi, hmaster, hcycles⟩ := interruptEntry_counts irqVector 7 (atBoundary s)
    rw [interruptCheck_irq rfl hp ((atBoundary_irqLine s).trans hline) ((atBoundary_flag .i s).trans hi), hmaster]
    exact ⟨hnmi.trans hp, congrArg (· + 1#64) (atBoundary_master s), hcycles, fun _ _ => entered_interruptEntry h0 h1,
      fun hidle => by simp [hline, hi] at hidle⟩
  case neg =>
    have hidle : s.irqLine = false ∨ getFlag .i s.p = true := by
      simpa only [not_and_or, Bool.not_eq_true, Bool.not_eq_false] using htaken
    rw [interruptCheck_none hp (by rwa [atBoundary_irqLine, atBoundary_flag])]
    refine ⟨hp, congrArg (· + 1#64) (atBoundary_master s), rfl, fun hline hi => absurd ⟨hline, hi⟩ htaken, fun _ => ?_⟩
    simp [atBoundary, SameRegisters, SameWorking, SameMemories, SameFaults]

/-! ### The ticks after a reset (R301, R342) -/

/-- A tick in which no instruction begins and no interrupt is taken is the PPU's dot and the counts. -/
theorem step_of_quiet {s : State} (hh : s.halted = false) (hn : NmiRequested s = false) (hl : s.irqLine = false)
    (hr : s.master.toNat % 3 = 0 → s.remaining ≠ 0) :
    step s = .next { ppuTick s with
      remaining := s.remaining - (if s.master.toNat % 3 = 0 then 1 else 0)
      cycles := s.cycles + (if s.master.toNat % 3 = 0 then 1#64 else 0#64)
      master := s.master + 1#64 } := by
  by_cases howed : LeavesOwed s
  · exact step_of_leavesOwed hh howed
  · have hb : EndsAtBoundary s := by
      simp only [EndsAtBoundary, LeavesOwed, hh, true_and] at howed ⊢
      omega
    have hleft : s.remaining - (if s.master.toNat % 3 = 0 then 1 else 0) = 0 := by
      obtain ⟨-, ⟨hm, hr⟩ | ⟨hm, hr⟩⟩ := hb <;> simp [hm, hr]
    rw [step_of_endsAtBoundary hb, hleft, endTick_of_running (atBoundary_halted hb),
      interruptCheck_none ((atBoundary_nmiPending s).trans hn) (.inl ((atBoundary_irqLine s).trans hl)),
      atBoundary_master]
    rfl

/-- The state `k` ticks after a reset, the PPU at `u`: the clocks among them, every third from the first, drained one
cycle each, and but for the counts and the PPU nothing changed. -/
def afterReset (s : State) (k : Nat) (u : Ppu) : State :=
  { systemReset s with
    ppu := u, remaining := 7 - (k + 2) / 3, cycles := BitVec.ofNat 64 ((k + 2) / 3), master := BitVec.ofNat 64 k }

theorem afterReset_zero (s : State) : afterReset s 0 (systemReset s).ppu = systemReset s := by
  rw [afterReset, systemReset_eq]
  rfl

theorem afterReset_master (s : State) (k : Nat) (u : Ppu) : (afterReset s k u).master.toNat = k % 2 ^ 64 :=
  BitVec.toNat_ofNat k 64

/-- What a reset leaves of what decides a tick. -/
theorem systemReset_system (s : State) : (systemReset s).halted = s.halted ∧ (systemReset s).irqLine = s.irqLine ∧
    (systemReset s).nmiPending = false ∧ (systemReset s).ppu.ctrl = 0#8 := by
  rw [systemReset_eq]
  exact ⟨rfl, rfl, rfl, rfl⟩

section
variable {s : State} (hh : s.halted = false) (hl : s.irqLine = false)
include hh hl

/-- A tick takes one state after a reset to the next; NMI stays disabled (D1). -/
theorem step_afterReset {k : Nat} {u : Ppu} (hk : k < 21) (hu : u.ctrl = 0#8) :
    ∃ u', u'.ctrl = 0#8 ∧ step (afterReset s k u) = .next (afterReset s (k + 1) u') := by
  obtain ⟨hhalted, hirq, hnmi, -⟩ := systemReset_system s
  have hreq : NmiRequested (afterReset s k u) = false := by
    change ((systemReset s).nmiPending || (_ && u.ctrl.getLsbD 7)) = false
    rw [hnmi, hu]
    simp
  have hm : (afterReset s k u).master.toNat = k := (afterReset_master s k u).trans (Nat.mod_eq_of_lt (by omega))
  have hr : (afterReset s k u).remaining = 7 - (k + 2) / 3 := rfl
  have hclocks : (k + 1 + 2) / 3 = (k + 2) / 3 + if k % 3 = 0 then 1 else 0 := by split_ifs <;> omega
  have hremaining : 7 - (k + 2) / 3 - (if k % 3 = 0 then 1 else 0) = 7 - (k + 1 + 2) / 3 := by omega
  have hcycles : BitVec.ofNat 64 ((k + 2) / 3) + (if k % 3 = 0 then 1#64 else 0#64) =
      BitVec.ofNat 64 ((k + 1 + 2) / 3) := by
    rw [hclocks, BitVec.ofNat_add]
    split_ifs <;> rfl
  have hdot : ppuTick (afterReset s k u) = afterReset s k (ppuTick (afterReset s k u)).ppu :=
    (ppuTick_eq _).trans (by rw [ppuTick_nmiPending, hreq, ← hnmi]; rfl)
  refine ⟨(ppuTick (afterReset s k u)).ppu, (ppuTick_ppu_ctrl _).trans hu, ?_⟩
  rw [step_of_quiet (s := afterReset s k u) (hhalted.trans hh) hreq (hirq.trans hl) (by omega), hm, hr, hremaining,
    hdot]
  simp only [afterReset, hcycles, BitVec.ofNat_add]

theorem ticks_afterReset (n : Nat) {k : Nat} {u : Ppu} (hk : k + n ≤ 21) (hu : u.ctrl = 0#8) :
    ∃ u', ticks n (afterReset s k u) = .next (afterReset s (k + n) u') := by
  induction n generalizing k u with
  | zero => exact ⟨u, rfl⟩
  | succ n ih =>
    obtain ⟨u', hu', hstep⟩ := step_afterReset hh hl (k := k) (by omega) hu
    rw [ticks, hstep, show k + (n + 1) = k + 1 + n by omega]
    exact ih (by omega) hu'

end

/-- Settles O58: 21 quiet ticks, then one that executes. -/
theorem firstInstructionAtTick21 : Obligations.FirstInstructionAtTick21 := by
  intro s hh hl
  obtain ⟨hhalted, -, -, hctrl⟩ := systemReset_system s
  obtain ⟨u, hu⟩ := ticks_afterReset hh hl 21 (k := 0) le_rfl hctrl
  rw [afterReset_zero] at hu
  obtain ⟨hinstr, hsp, hp, hmem⟩ : (systemReset s).instructions = 0#64 ∧ (systemReset s).sp = 0xFD#8 ∧
      (systemReset s).p = 0#8 ∧ SameMemories s (systemReset s) := by
    rw [systemReset_eq]
    exact ⟨rfl, rfl, rfl, rfl, rfl, rfl, rfl⟩
  have hrun : (afterReset s 21 u).halted = false := hhalted.trans hh
  refine ⟨afterReset s 21 u, hu, rfl, rfl, hinstr, rfl, rfl, hsp, hp, hmem, hrun, ?_⟩
  have hclock : (afterReset s 21 u).master.toNat % 3 = 0 := congrArg (· % 3) (afterReset_master s 21 u)
  obtain ⟨t, he, -⟩ := exec_completes (fetchInstr (ppuTick (afterReset s 21 u))).1
    (fetchInstr (ppuTick (afterReset s 21 u))).2
  obtain ⟨-, hdone, ht⟩ := step_of_executed hrun hclock rfl he
  refine ⟨_, ht, ?_⟩
  split
  next hhalt => exact .inl hhalt
  next hgo =>
    obtain ⟨-, hcount⟩ := hdone (Bool.eq_false_of_not_eq_true hgo)
    exact .inr (hcount.trans (congrArg (· + 1#64) hinstr))

end Sys2Proof.Machine
end

section
/-! PROOFS. The PPU's frame (O38, O39, O40): the dot of a tick and its events, the position in the frame, and the run to
the frame-complete pulse. -/

namespace Sys2Proof.Machine

/-! ### One dot (R281, R284, R285) -/

/-- Settles O38: the dot of a tick from a valid position, case by case. -/
theorem ppuEventsOfATick : Obligations.PpuEventsOfATick := by
  intro s hv
  refine ⟨fun ⟨hl, hd⟩ => ?_, fun ⟨hl, hd⟩ => ?_, fun hno => ?_⟩ <;> rw [ppuTick_of_valid hv]
  · rw [if_pos hd, if_pos hl]
  · rw [if_pos hd, if_neg (by omega), if_pos hl]
  · by_cases hd : s.ppu.dot = 340
    · rw [if_pos hd, if_neg fun hl => hno ⟨hd, .inl hl⟩, if_neg fun hl => hno ⟨hd, .inr hl⟩]
      simp only [hd, if_true]
    · simp only [hd, if_false]

theorem validPosition_iff (line : Int) (dot : Nat) :
    validPosition line dot = true ↔ -1 ≤ line ∧ line ≤ 260 ∧ dot ≤ 340 := by
  simp only [validPosition, Bool.and_eq_true, decide_eq_true_eq, and_assoc]

theorem framePosition_of_valid {u : Ppu} (h : validPosition u.scanline u.dot = true) :
    0 ≤ u.framePosition ∧ u.framePosition < 89342 := by
  rw [validPosition_iff] at h
  rw [Ppu.framePosition]
  omega

/-- One dot on in the frame `u` was in: the pulse is at its first dot alone, where the frames are counted (R283,
R285). -/
structure NextDot (u u' : Ppu) : Prop where
  position : u'.framePosition = (u.framePosition + 1) % 89342
  valid : validPosition u'.scanline u'.dot = true
  pulse : u'.frameComplete = true ↔ u'.framePosition = 0
  count : u'.frameCount = u.frameCount + (if u'.framePosition = 0 then 1#64 else 0#64)

theorem nextDot_ppuTick {s : State} (hv : validPosition s.ppu.scanline s.ppu.dot = true) :
    NextDot s.ppu (ppuTick s).ppu := by
  have hnext := ppuTick_validPosition s hv
  obtain ⟨h0, h1, h2⟩ := (validPosition_iff _ _).1 hv
  rw [ppuTick_of_valid hv] at hnext ⊢
  split_ifs at hnext ⊢ with hd hvbl hpre
  · exact ⟨by simp only [Ppu.framePosition]; omega, hnext, by simp [Ppu.framePosition], by simp [Ppu.framePosition]⟩
  · exact ⟨by simp only [Ppu.framePosition]; omega, hnext, by simp [Ppu.framePosition], by simp [Ppu.framePosition]⟩
  · have hne : (s.ppu.scanline + 1 + 1) * 341 + 0 ≠ 0 := by omega
    exact ⟨by simp only [Ppu.framePosition]; omega, hnext, by simpa [Ppu.framePosition] using hne,
      by simp only [Ppu.framePosition, Nat.cast_zero, hne, if_false, BitVec.add_zero]⟩
  · have hne : (s.ppu.scanline + 1) * 341 + ((s.ppu.dot + 1 : Nat) : Int) ≠ 0 := by omega
    exact ⟨by simp only [Ppu.framePosition]; omega, hnext, by simpa [Ppu.framePosition] using hne,
      by simp only [Ppu.framePosition, hne, if_false, BitVec.add_zero]⟩

/-! ### A tick moves one dot, whatever else it does -/

theorem NextDot.of_within {u : Ppu} {s t : State} (h : NextDot u s.ppu) (hw : Within s t) : NextDot u t.ppu := by
  have hpos : t.ppu.framePosition = s.ppu.framePosition := by rw [Ppu.framePosition, hw.scanline, hw.dot]; rfl
  obtain ⟨hposition, hvalid, hpulse, hcount⟩ := h
  exact ⟨hpos.trans hposition, by rwa [hw.scanline, hw.dot], by rwa [hw.frameComplete, hpos],
    by rwa [hw.frameCount, hpos]⟩

theorem interruptCheck_ppu (s : State) : (interruptCheck s).ppu = s.ppu := by
  obtain ⟨h0, h1, h2, h3, -⟩ := regionOf_vectors
  unfold interruptCheck
  split_ifs
  · rfl
  · rw [interruptEntry_pushedOnto 8 _ h0 h1]
  · rw [interruptEntry_pushedOnto 7 _ h2 h3]
  · rfl

theorem endTick_ppu (s : State) : (endTick s).ppu = s.ppu := by
  unfold endTick
  split
  · rfl
  · exact interruptCheck_ppu s

theorem countClockUnlessHalted_ppu (s : State) : (countClockUnlessHalted s).ppu = s.ppu := by
  unfold countClockUnlessHalted
  split <;> rfl

theorem nextDot_of_step {s t : State} (hv : validPosition s.ppu.scanline s.ppu.dot = true) (hh : s.halted = false)
    (h : step s = .next t) : NextDot s.ppu t.ppu := by
  obtain ⟨u, hu, hcases⟩ := step_cases hh
  obtain rfl := Host.Outcome.next.inj (h.symm.trans hu)
  rw [endTick_ppu]
  obtain ⟨-, rfl⟩ | ⟨-, -, rfl⟩ | ⟨-, -, v, -, hw, -, rfl⟩ := hcases
  · exact nextDot_ppuTick hv
  · exact nextDot_ppuTick hv
  · rw [countClockUnlessHalted_ppu]
    exact (nextDot_ppuTick hv).of_within hw

theorem State.Wf.validPosition {s : State} (h : s.Wf) : validPosition s.ppu.scanline s.ppu.dot = true := by
  obtain ⟨-, -, -, -, hpos, -⟩ := s.wf_iff.1 h
  exact hpos

/-- Settles O39: every tick moves one dot; construction checks the position last. -/
theorem framePositionAdvances : Obligations.FramePositionAdvances := by
  refine ⟨fun s t hs hh h => ?_, fun img params => ⟨validPosition_iff _ _, fun hv => ?_⟩⟩
  · obtain ⟨hposition, hvalid, hpulse, hcount⟩ := nextDot_of_step hs.validPosition hh h
    exact ⟨hposition, hvalid, hpulse, hcount⟩
  · unfold construct
    split
    · exact ⟨_, rfl⟩
    · rw [hv]
      exact ⟨_, rfl⟩

/-! ### The run to the pulse (R306) -/

/-- The system runs on and the frame-complete pulse has not come. -/
def beforePulse (s : State) : Bool := !s.halted && !s.ppu.frameComplete

theorem runUntilFrame_of_running {s t : State} (hh : s.halted = false) (h : step s = .next t) :
    runUntilFrame s = ticksWhile beforePulse (frameDots - 1) t := by
  have hmore : beforePulse = fun u => !u.halted && !u.ppu.frameComplete := rfl
  simp only [runUntilFrame, hh, h, hmore, Bool.false_eq_true, if_false]

theorem ticksWhile_succ {more : State → Bool} {s t : State} (fuel : Nat) (hm : more s = true) (h : step s = .next t) :
    ticksWhile more (fuel + 1) s = ticksWhile more fuel t := by
  rw [ticksWhile, if_pos hm, h]

theorem ticksWhile_of_stopped {more : State → Bool} {s : State} (fuel : Nat) (hm : more s = false) :
    ticksWhile more fuel s = .next s := by
  cases fuel
  · rfl
  · rw [ticksWhile, if_neg (by simp [hm])]

theorem ticks_succ {s t : State} (n : Nat) (h : step s = .next t) : ticks (n + 1) s = ticks n t := by
  rw [ticks, h]

/-- A loop of ticks that ends by its condition: at most `fuel` of them, the condition held before each, and not
after. -/
structure EndsAt (more : State → Bool) (fuel : Nat) (s : State) (n : Nat) (t : State) : Prop where
  bound : n ≤ fuel
  loop : ticksWhile more fuel s = .next t
  run : ticks n s = .next t
  stopped : more t = false
  before : ∀ m u, m < n → ticks m s = .next u → more u = true

theorem EndsAt.succ {more : State → Bool} {fuel n : Nat} {s t u : State} (hm : more s = true) (h : step s = .next t)
    (e : EndsAt more fuel t n u) : EndsAt more (fuel + 1) s (n + 1) u where
  bound := Nat.succ_le_succ e.bound
  loop := (ticksWhile_succ fuel hm h).trans e.loop
  run := (ticks_succ n h).trans e.run
  stopped := e.stopped
  before m v hlt hv := by
    cases m with
    | zero => exact Host.Outcome.next.inj hv ▸ hm
    | succ m => exact e.before m v (Nat.lt_of_succ_lt_succ hlt) ((ticks_succ m h).symm.trans hv)

theorem endsAt_of_stopped {more : State → Bool} {s : State} (fuel : Nat) (hm : more s = false) :
    EndsAt more fuel s 0 s :=
  ⟨Nat.zero_le _, ticksWhile_of_stopped fuel hm, rfl, hm, fun _ _ hlt => absurd hlt (Nat.not_lt_zero _)⟩

/-- With ticks enough to reach the end of the frame the loop ends at the pulse or a halt: each tick is one dot
nearer. -/
theorem endsAt_pulse (fuel : Nat) {s : State} (hs : s.Wf)
    (hpulse : s.ppu.frameComplete = true ↔ s.ppu.framePosition = 0)
    (hfuel : s.ppu.framePosition = 0 ∨ 89342 ≤ s.ppu.framePosition + fuel) :
    ∃ n t, EndsAt beforePulse fuel s n t := by
  obtain ⟨h0, hlt⟩ := framePosition_of_valid hs.validPosition
  cases hm : beforePulse s
  case false => exact ⟨0, s, endsAt_of_stopped fuel hm⟩
  case true =>
    obtain ⟨hrun, hnot⟩ : s.halted = false ∧ ¬ s.ppu.frameComplete = true := by simpa [beforePulse] using hm
    rw [hpulse] at hnot
    cases fuel with
    | zero => omega
    | succ fuel =>
      obtain ⟨t, ht⟩ := (everyTickAnswersNext s).1
      obtain ⟨hposition, -, hpulse', -⟩ := nextDot_of_step hs.validPosition hrun ht
      obtain ⟨n, u, hend⟩ := endsAt_pulse fuel (stepKeepsWellFormed s t hs ht) hpulse' (by omega)
      exact ⟨n + 1, u, hend.succ hm ht⟩

/-- Settles O40: one tick, then the loop, which the length of a frame bounds. -/
theorem runUntilFrameEndsAtThePulse : Obligations.RunUntilFrameEndsAtThePulse := by
  refine ⟨fun s hh => by rw [runUntilFrame, if_pos hh], fun s hs hh => ?_⟩
  obtain ⟨t, ht⟩ := (everyTickAnswersNext s).1
  have hs' := stepKeepsWellFormed s t hs ht
  obtain ⟨-, hvalid, hpulse, -⟩ := nextDot_of_step hs.validPosition hh ht
  have h0 := framePosition_of_valid hvalid
  have hloop := runUntilFrame_of_running hh ht
  obtain ⟨n, u, hbound, hu, hticks, hstop, hbefore⟩ := endsAt_pulse (frameDots - 1) hs' hpulse (by
    simp only [frameDots]; omega)
  refine ⟨n + 1, u, by omega, by simp only [frameDots] at hbound; omega, hloop.trans hu, (ticks_succ n ht).trans hticks,
    ?_, fun m v h1 hlt hv => ?_⟩
  · simp only [beforePulse, Bool.and_eq_false_iff, Bool.not_eq_false'] at hstop
    exact hstop.symm
  · obtain ⟨m, rfl⟩ := Nat.exists_eq_add_of_le' h1
    simpa [beforePulse, and_comm] using hbefore m v (by omega) ((ticks_succ m ht).symm.trans hv)

end Sys2Proof.Machine
end

section
/-! PROOFS. The host's operations (O42): each that answers keeps the invariant. -/

namespace Sys2Proof.Machine

theorem ticksWhile_keeps_wf (more : State → Bool) (fuel : Nat) {s t : State} (hs : s.Wf)
    (h : ticksWhile more fuel s = .next t) : t.Wf := by
  induction fuel generalizing s with
  | zero => exact Host.Outcome.next.inj h ▸ hs
  | succ fuel ih =>
    cases hm : more s
    case false => exact Host.Outcome.next.inj ((ticksWhile_of_stopped _ hm).symm.trans h) ▸ hs
    case true =>
      obtain ⟨u, hu⟩ := (everyTickAnswersNext s).1
      exact ih (stepKeepsWellFormed s u hs hu) ((ticksWhile_succ fuel hm hu).symm.trans h)

theorem runUntilFrame_keeps_wf {s t : State} (hs : s.Wf) (h : runUntilFrame s = .next t) : t.Wf := by
  cases hh : s.halted
  case true => exact Host.Outcome.next.inj ((runUntilFrameEndsAtThePulse.1 s hh).symm.trans h) ▸ hs
  case false =>
    obtain ⟨u, hu⟩ := (everyTickAnswersNext s).1
    exact ticksWhile_keeps_wf _ _ (stepKeepsWellFormed s u hs hu) ((runUntilFrame_of_running hh hu).symm.trans h)

theorem singleStep_keeps_wf {s t : State} (hs : s.Wf) (h : singleStep s = .next t) : t.Wf := by
  unfold singleStep at h
  split at h
  next u hu => exact ticksWhile_keeps_wf _ _ (ticksWhile_keeps_wf _ _ hs hu) h
  · cases h
  · cases h

/-- The buttons are no part of the invariant. -/
theorem setButton_keeps_wf {port : Nat} {button : Byte} {pressed : Bool} {s t : State} (hs : s.Wf)
    (h : setButton port button pressed s = .next t) : t.Wf := by
  unfold setButton at h
  split_ifs at h <;> cases h <;> exact hs

/-- A bus access of the host is one of those an instruction makes, and owes nothing. -/
theorem State.Wf.of_access {s t : State} (hs : s.Wf) (hw : Within s t) (hr : t.remaining = s.remaining) : t.Wf := by
  obtain ⟨-, -, -, -, -, -, hrem, -⟩ := s.wf_iff.1 hs
  exact hs.of_within hw (hr.trans_le hrem)

theorem answering_next {answer ans : Answer} {o : Out} {t : State} (h : answering answer o = .next (t, ans)) :
    o = .next t := by
  cases o with
  | next u => cases h; rfl
  | fault r => cases h
  | refused r => cases h

/-- Settles O42: one operation after another. -/
theorem hostCallsKeepWellFormed : Obligations.HostCallsKeepWellFormed := by
  intro c s t ans hs h
  cases c with
  | reset => cases h; exact hs.systemReset
  | cycle => exact stepKeepsWellFormed s t hs (answering_next h)
  | runUntilFrame => exact runUntilFrame_keeps_wf hs (answering_next h)
  | singleStep => exact singleStep_keeps_wf hs (answering_next h)
  | setPc v => cases h; exact hs
  | setButton port button pressed => exact setButton_keeps_wf hs (answering_next h)
  | renderPatternTable table palette =>
    simp only [call] at h
    split at h <;> cases h
    exact hs
  | cpuRead a => cases h; exact hs.of_access (within_memRead a s) (busReadEffect_remaining a s)
  | cpuWrite a v => cases h; exact hs.of_access (within_memWrite a v s) (memWrite_remaining a v s)
  | ppuWrite a v => cases h; exact hs.of_access (within_ppuWrite a v s) (ppuWrite_remaining a v s)
  | setIrqLine asserted => cases h; exact hs
  | getPc | getCycles | getInstructions | renderBackground | ppuRead | getFault => cases h; exact hs

end Sys2Proof.Machine
end

section
/-! PROOFS. The PPU's data, control, scroll and address registers (O52, O53): what a read or a write of each leaves, in
numbers. -/

namespace Sys2Proof.Machine

/-! ### PPUDATA (R292, R293) -/

theorem nextV_toNat (u : Ppu) : u.nextV.toNat = (u.v.toNat + (if u.ctrl.getLsbD 2 then 32 else 1)) % 32768 := by
  rw [Ppu.nextV, BitVec.toNat_add]
  split_ifs <;> rfl

theorem dataAddr_toNat (u : Ppu) : u.dataAddr.toNat = u.v.toNat % 16384 := by
  have hv := u.v.isLt
  rw [Ppu.dataAddr, BitVec.toNat_and, BitVec.toNat_setWidth, Nat.mod_eq_of_lt (by omega)]
  exact Nat.and_two_pow_sub_one_eq_mod u.v.toNat 14

/-- Settles O52: PPUDATA at the address and with the step of `v`. -/
theorem ppuDataAccess : Obligations.PpuDataAccess := by
  intro s a d h0 h1 h7
  refine ⟨s.ppu.nextV, s.ppu.dataAddr, nextV_toNat s.ppu, dataAddr_toNat s.ppu, ?_, memRead_data s h0 h1 h7, ?_⟩
  · rw [memRead_ppuRegs s h0 h1, ppuRegOf_of_offset h7, ← dataAddr_toNat]
    rfl
  · rw [memWrite_ppuRegs d s h0 h1, ppuRegOf_of_offset h7]
    change writePpuData d s = _
    rw [writePpuData, ppuWrite_ppu]

/-! ### The fields of `t` in numbers (D21) -/

theorem toNat_eq_of_bits {m n : Nat} {x : BitVec m} {y : BitVec n} (hw : m = n)
    (h : ∀ i < m, x.getLsbD i = y.getLsbD i) : x.toNat = y.toNat := by
  subst hw
  exact congrArg BitVec.toNat (BitVec.eq_of_getLsbD_eq h)

/-- The number of two fields side by side. -/
theorem toNat_append_eq {m n : Nat} (x : BitVec m) (y : BitVec n) : (x ++ y).toNat = x.toNat * 2 ^ n + y.toNat := by
  rw [BitVec.toNat_append, Nat.shiftLeft_eq, Nat.mul_comm, ← Nat.two_pow_add_eq_or_of_lt y.isLt]

/-- The number of a field cut out. -/
theorem extractLsb'_toNat_eq {w : Nat} (x : BitVec w) (start len : Nat) :
    (x.extractLsb' start len).toNat = x.toNat / 2 ^ start % 2 ^ len := by
  rw [BitVec.extractLsb'_toNat, Nat.shiftRight_eq_div_pow]

section
variable (t : BitVec 15) (d : Byte)

/-- A PPUCTRL write puts its low two bits into bits 11:10 (R288). -/
theorem t_of_ctrl : ((t &&& ~~~0x0C00#15) ||| ((d.extractLsb' 0 2).setWidth 15 <<< 10)).toNat =
    t.toNat / 4096 * 4096 + d.toNat % 4 * 1024 + t.toNat % 1024 := by
  refine (toNat_eq_of_bits (y := t.extractLsb' 12 3 ++ d.extractLsb' 0 2 ++ t.extractLsb' 0 10) rfl
    fun i hi => ?bits).trans ?number
  case bits =>
    rw [BitVec.getLsbD_append, BitVec.getLsbD_append]
    interval_cases i <;> simp
  case number =>
    have ht := t.isLt
    simp only [toNat_append_eq, extractLsb'_toNat_eq]
    omega

/-- The first PPUSCROLL write puts coarse X into bits 4:0 (R291). -/
theorem t_of_scroll_first : ((t &&& ~~~0x001F#15) ||| (d.extractLsb' 3 5).setWidth 15).toNat =
    t.toNat / 32 * 32 + d.toNat / 8 := by
  refine (toNat_eq_of_bits (y := t.extractLsb' 5 10 ++ d.extractLsb' 3 5) rfl fun i hi => ?bits).trans ?number
  case bits =>
    rw [BitVec.getLsbD_append]
    interval_cases i <;> simp
  case number =>
    have ht := t.isLt
    have hd := d.isLt
    simp only [toNat_append_eq, extractLsb'_toNat_eq]
    omega

/-- The second PPUSCROLL write puts fine Y into bits 14:12 and coarse Y into bits 9:5 (R291). -/
theorem t_of_scroll_second :
    ((t &&& ~~~0x73E0#15) ||| ((d.extractLsb' 0 3).setWidth 15 <<< 12)
      ||| ((d.extractLsb' 3 5).setWidth 15 <<< 5)).toNat =
    d.toNat % 8 * 4096 + t.toNat / 1024 % 4 * 1024 + d.toNat / 8 * 32 + t.toNat % 32 := by
  refine (toNat_eq_of_bits
    (y := d.extractLsb' 0 3 ++ t.extractLsb' 10 2 ++ d.extractLsb' 3 5 ++ t.extractLsb' 0 5) rfl
    fun i hi => ?bits).trans ?number
  case bits =>
    rw [BitVec.getLsbD_append, BitVec.getLsbD_append, BitVec.getLsbD_append]
    interval_cases i <;> simp
  case number =>
    have hd := d.isLt
    simp only [toNat_append_eq, extractLsb'_toNat_eq]
    omega

/-- The first PPUADDR write puts its low six bits into bits 13:8 and clears bit 14 (R294). -/
theorem t_of_addr_first : ((t &&& 0x00FF#15) ||| ((d.extractLsb' 0 6).setWidth 15 <<< 8)).toNat =
    d.toNat % 64 * 256 + t.toNat % 256 := by
  refine (toNat_eq_of_bits (y := 0#1 ++ d.extractLsb' 0 6 ++ t.extractLsb' 0 8) rfl fun i hi => ?bits).trans ?number
  case bits =>
    rw [BitVec.getLsbD_append, BitVec.getLsbD_append]
    interval_cases i <;> simp
  case number =>
    simp only [toNat_append_eq, extractLsb'_toNat_eq, BitVec.toNat_ofNat]
    omega

/-- The second PPUADDR write puts its byte into bits 7:0 (R294). -/
theorem t_of_addr_second : ((t &&& 0x7F00#15) ||| d.setWidth 15).toNat = t.toNat / 256 * 256 + d.toNat := by
  refine (toNat_eq_of_bits (y := t.extractLsb' 8 7 ++ d) rfl fun i hi => ?bits).trans ?number
  case bits =>
    rw [BitVec.getLsbD_append]
    interval_cases i <;> simp
  case number =>
    have ht := t.isLt
    simp only [toNat_append_eq, extractLsb'_toNat_eq]
    omega

end

/-! ### The writes (R288, R290, R291, R294) -/

theorem fineX_eq (d : Byte) : d.extractLsb' 0 3 = BitVec.ofNat 3 d.toNat := by
  apply BitVec.eq_of_toNat_eq
  rw [extractLsb'_toNat_eq, BitVec.toNat_ofNat, pow_zero, Nat.div_one]

/-- Settles O53: the register by its offset, the write by the toggle, the new `t` by its fields. -/
theorem ppuControlScrollAddressWrites : Obligations.PpuControlScrollAddressWrites := by
  intro s a d h0 h1
  have hscroll : ppuRegWrite (ppuRegOf 5#16) d s = writePpuScroll d s := rfl
  have haddr : ppuRegWrite (ppuRegOf 6#16) d s = writePpuAddr d s := rfl
  refine ⟨(memWrite a d s).ppu.t, ?_⟩
  rw [memWrite_ppuRegs d s h0 h1]
  refine ⟨fun h => ?_, fun h => ?_, fun h hw => ?_, fun h hw => ?_, fun h hw => ?_, fun h hw => ?_⟩ <;>
    rw [ppuRegOf_of_offset h]
  · exact ⟨rfl, t_of_ctrl s.ppu.t d⟩
  · rfl
  · rw [hscroll, writePpuScroll, if_neg (by simp [hw]), fineX_eq]
    exact ⟨rfl, t_of_scroll_first s.ppu.t d⟩
  · rw [hscroll, writePpuScroll, if_pos hw]
    exact ⟨rfl, t_of_scroll_second s.ppu.t d⟩
  · rw [haddr, writePpuAddr, if_neg (by simp [hw])]
    exact ⟨rfl, t_of_addr_first s.ppu.t d⟩
  · rw [haddr, writePpuAddr, if_pos hw]
    exact ⟨rfl, t_of_addr_second s.ppu.t d⟩

end Sys2Proof.Machine
end

section
/-! PROOFS. The controllers (O54): reads after a strobe, and the mask bit of a button. -/

namespace Sys2Proof.Machine

/-! ### The shift registers (R303, R304) -/

/-- A port whose reads answer bit 0 of a controller and shift it answers its bits in order, then zeros (D22). -/
theorem readAgain_of_shifting {a : Addr} {ctl : State → Controller} (hv : ∀ s, busValue a s = (ctl s).shift &&& 1#8)
    (he : ∀ s, (ctl (busReadEffect a s)).shift = (ctl s).shift >>> 1) (n : Nat) (s : State) :
    readAgain n a s = (List.range n).map fun k => BitVec.ofNat 8 ((ctl s).shift.getLsbD k).toNat := by
  have hbit : ∀ b : Byte, b &&& 1#8 = BitVec.ofNat 8 (b.getLsbD 0).toNat := by decide
  induction n generalizing s with
  | zero => rfl
  | succ n ih =>
    rw [readAgain, ih, hv, he, hbit, List.range_succ_eq_map, List.map_cons, List.map_map]
    simp only [Function.comp_def, BitVec.getLsbD_ushiftRight, Nat.add_comm 1, Nat.succ_eq_add_one]

theorem readAgain_controller1 (n : Nat) (s : State) :
    readAgain n 0x4016#16 s = (List.range n).map fun k => BitVec.ofNat 8 (s.ctl0.shift.getLsbD k).toNat :=
  readAgain_of_shifting (ctl := State.ctl0) (fun s => congrArg Prod.fst (memRead_controller1 s rfl))
    (fun s => congrArg (·.2.ctl0.shift) (memRead_controller1 s rfl)) n s

theorem readAgain_controller2 (n : Nat) (s : State) :
    readAgain n 0x4017#16 s = (List.range n).map fun k => BitVec.ofNat 8 (s.ctl1.shift.getLsbD k).toNat :=
  readAgain_of_shifting (ctl := State.ctl1) (fun s => congrArg Prod.fst (memRead_controller2 s rfl))
    (fun s => congrArg (·.2.ctl1.shift) (memRead_controller2 s rfl)) n s

theorem memWrite_controller1 {a : Addr} (v : Byte) (s : State) (h : a.toNat = 0x4016) :
    memWrite a v s = ctlStrobe s := by
  simp only [memWrite, regionOf_controller1 h]

/-! ### The buttons (R305) -/

/-- The eight masks are the eight powers of two. -/
theorem validButton_iff : ∀ button : Byte, validButton button = true ↔ ∃ k < 8, button = 1#8 <<< k := by decide

theorem getLsbD_mask : ∀ j < 8, ∀ k < 8, (1#8 <<< j).getLsbD k = decide (1#8 <<< j = 1#8 <<< k) := by decide

/-- A press or a release writes the bit of its mask alone. -/
theorem pressButton_getLsbD {j k : Nat} (hj : j < 8) (hk : k < 8) (pressed : Bool) (c : Controller) :
    (pressButton (1#8 <<< j) pressed c).buttons.getLsbD k =
      if 1#8 <<< j = 1#8 <<< k then pressed else c.buttons.getLsbD k := by
  have hmask := getLsbD_mask j hj k hk
  cases pressed
  · simp only [pressButton, Bool.false_eq_true, if_false, BitVec.getLsbD_and, BitVec.getLsbD_not, hmask, hk]
    split_ifs with h <;> simp [h]
  · simp only [pressButton, if_true, BitVec.getLsbD_or, hmask]
    split_ifs with h <;> simp [h]

/-- Settles O54: the strobe loads what the reads shift out; a mask that is accepted is one bit. -/
theorem controllersStrobeShiftAndSetButton : Obligations.ControllersStrobeShiftAndSetButton := by
  refine ⟨fun s v n => ⟨memWrite_ignored v s (by decide) (by decide) (by decide), ?_, ?_⟩,
    fun s port button pressed => ⟨fun hport ⟨j, hj, hbutton⟩ => ?_, fun hno => ?_⟩⟩
  · rw [memWrite_controller1 v s rfl, readAgain_controller1]
    rfl
  · rw [memWrite_controller1 v s rfl, readAgain_controller2]
    rfl
  · have hvalid : validButton button = true := (validButton_iff button).2 ⟨j, hj, hbutton⟩
    refine ⟨(pressButton button pressed (if port = 0 then s.ctl0 else s.ctl1)).buttons, fun k hk => ?_, ?_⟩
    · rw [hbutton, pressButton_getLsbD hj hk]
    · obtain rfl | rfl : port = 0 ∨ port = 1 := by omega
      all_goals simp [setButton, hvalid, pressButton]
  · rw [← validButton_iff] at hno
    cases hvalid : validButton button
    case false => exact ⟨.invalidButton, by simp only [setButton, hvalid, Bool.not_false, if_true]⟩
    case true =>
      have hport : 1 < port := by simpa [hvalid] using hno
      exact ⟨.invalidPort, by
        simp only [setButton, hvalid, Bool.not_true, Bool.false_eq_true, if_false]
        rw [if_neg (by omega), if_neg (by omega)]⟩

end Sys2Proof.Machine
end

section
/-! PROOFS. The renderers (O55, O56): colours, tiles and images in numbers. -/

namespace Sys2Proof.Machine

/-! ### Colours and tiles (R296, R299) -/

/-- The colour of a palette entry, its byte read through the PPU bus. -/
theorem colour_eq {p e : Nat} (hp : p < 8) (he : e < 4) (s : State) :
    colour p e s = Config.ntscPalette (BitVec.ofNat 6 (ppuRead (BitVec.ofNat 16 (0x3F00 + 4 * p + e)) s).toNat) := by
  have haddr : 0x3F00#16 + BitVec.ofNat 16 (p * 4 + e) = BitVec.ofNat 16 (0x3F00 + 4 * p + e) := by
    rw [← BitVec.ofNat_add, Nat.mul_comm, Nat.add_assoc]
  have hpal : ppuRegion (ppuBusAddr (BitVec.ofNat 16 (0x3F00 + 4 * p + e))) = .palette := by
    rw [ppuRegion_palette_iff, BitVec.toNat_ofNat]
    omega
  rw [colour, haddr, palRead, palIndex_eq, ← ppuRead_palette s hpal, BitVec.ofNat_toNat]

theorem ppuRead_pattern {a : Addr} (s : State) (h : a.toNat < 0x2000) : ppuRead a s = s.cart.chr.read a.toNat := by
  have hmod : a.toNat % 16384 = a.toNat := Nat.mod_eq_of_lt (by omega)
  rw [ppuRead, (ppuRegion_pattern_iff a).2 (hmod.symm ▸ h)]
  change s.cart.chr.read (ppuBusAddr a).toNat = _
  rw [ppuBusAddr_toNat, hmod]

/-- Two bits of two planes are a number below 4. -/
theorem planes_eq : ∀ b0 b1 : Bool, b0.toNat ||| b1.toNat <<< 1 = b0.toNat + 2 * b1.toNat := by decide

theorem bit_toNat (b : Byte) (k : Nat) : (b.getLsbD k).toNat = b.toNat / 2 ^ k % 2 := by
  rw [← BitVec.testBit_toNat, Nat.toNat_testBit]

theorem tilePixel_eq {table y : Nat} (ht : table < 2) (hy : y < 8) (idx : Byte) (x : Nat) (s : State) :
    tilePixel (BitVec.ofNat 16 (table * 0x1000)) idx x y s =
      (s.cart.chr.read (table * 4096 + idx.toNat * 16 + y)).toNat / 2 ^ (7 - x) % 2 +
      2 * ((s.cart.chr.read (table * 4096 + idx.toNat * 16 + y + 8)).toNat / 2 ^ (7 - x) % 2) := by
  have hidx := idx.isLt
  have hplane : ∀ k ≤ 8, ppuRead (BitVec.ofNat 16 (table * 0x1000 + (idx.toNat * 16 + y) + k)) s =
      s.cart.chr.read (table * 4096 + idx.toNat * 16 + y + k) := by
    intro k hk
    rw [ppuRead_pattern s (by rw [BitVec.toNat_ofNat]; omega), BitVec.toNat_ofNat, Nat.mod_eq_of_lt (by omega),
      ← Nat.add_assoc (table * 4096)]
  have hlow := hplane 0 (Nat.zero_le 8)
  have hhigh := hplane 8 le_rfl
  rw [BitVec.ofNat_add, BitVec.ofNat_add (table * 0x1000)] at hlow hhigh
  rw [BitVec.add_zero] at hlow
  simp only [tilePixel, hlow, hhigh, Nat.add_zero]
  rw [planes_eq, bit_toNat, bit_toNat]

/-! ### Images (R297, R298) -/

/-- Pixel (x, y) of an image drawn row by row. -/
theorem pixel_of_rows {α : Type} {w h x y : Nat} (hx : x < w) (hy : y < h) (f : Nat → Nat → α) :
    ((List.range h).map fun py => (List.range w).map fun px => f px py)[y]?.bind (·[x]?) = some (f x y) := by
  simp [hx, hy]

theorem length_of_rows {α : Type} (w h : Nat) (f : Nat → Nat → α) :
    ((List.range h).map fun py => (List.range w).map fun px => f px py).length = h ∧
      ∀ row ∈ (List.range h).map fun py => (List.range w).map fun px => f px py, row.length = w := by
  simp

/-- Tile `i` stands at tile row `i / 16`, tile column `i % 16` (D25). -/
theorem patternPixel_of_tile (table palette : Nat) {i x y : Nat} (hx : x < 8) (hy : y < 8) (s : State) :
    patternPixel table palette (i % 16 * 8 + x) (i / 16 * 8 + y) s =
      colour palette (tilePixel (BitVec.ofNat 16 (table * 0x1000)) (BitVec.ofNat 8 i) x y s) s := by
  have htile : (i / 16 * 8 + y) / 8 * 16 + (i % 16 * 8 + x) / 8 = i := by omega
  have hcol : (i % 16 * 8 + x) % 8 = x := by omega
  have hrow : (i / 16 * 8 + y) % 8 = y := by omega
  rw [patternPixel, htile, hcol, hrow]

/-- Settles O55: bits of the two planes, entries of the palette, tiles in their order. -/
theorem tilesAndPatternTableImage : Obligations.TilesAndPatternTableImage := by
  refine ⟨fun s p e hp he => colour_eq hp he s, fun s table idx x y ht _ hy => tilePixel_eq ht hy idx x s,
    fun s table palette => ⟨fun ht hp => ⟨patternImage table palette s, ?_, ?_, ?_, fun i x y hi hx hy => ?_⟩,
      fun hno => ⟨.invalidRenderArgument, ?_⟩⟩⟩
  · simp only [call, renderPatternTable, ht, hp, and_self, if_true]
  · exact (length_of_rows 128 128 fun px py => patternPixel table palette px py s).1
  · exact (length_of_rows 128 128 fun px py => patternPixel table palette px py s).2
  · rw [patternImage, pixel_of_rows (by omega) (by omega) fun px py => patternPixel table palette px py s,
      patternPixel_of_tile table palette hx hy s]
  · simp only [call, renderPatternTable, hno, if_false]

/-! ### The background (R297) -/

theorem and_two_eq (n : Nat) : n &&& 2 = n / 2 % 2 * 2 := by
  rw [show n &&& 2 = (n.testBit 1).toNat * 2 from Nat.and_two_pow n 1, Nat.toNat_testBit, pow_one]

/-- The two bits of the quadrant a tile is in. -/
theorem quadrantPalette_eq (attr : Byte) (row col : Nat) :
    quadrantPalette attr row col = attr.toNat / 4 ^ (row / 2 % 2 * 2 + col / 2 % 2) % 4 := by
  have hquadrant : (row &&& 2) ||| ((col &&& 2) >>> 1) = row / 2 % 2 * 2 + col / 2 % 2 := by
    have hcol : (col &&& 2) >>> 1 = col / 2 % 2 := by
      rw [and_two_eq, Nat.shiftRight_eq_div_pow, pow_one, Nat.mul_div_cancel _ two_pos]
    rw [and_two_eq, hcol, Nat.mul_comm]
    exact (Nat.two_pow_add_eq_or_of_lt (i := 1) (Nat.mod_lt _ two_pos) _).symm
  rw [quadrantPalette, hquadrant, Nat.shiftRight_eq_div_pow, Nat.mul_comm, Nat.pow_mul]
  exact Nat.and_two_pow_sub_one_eq_mod _ 2

/-- The source of a screen tile in numbers: past the last column or row it is in the neighbouring nametable. -/
theorem tileSource_eq {sx sy : Nat} (hx : sx < 32) (hy : sy < 30) (s : State) {col row : Nat}
    (hcol : col = s.ppu.t.toNat % 32 + sx) (hrow : row = s.ppu.t.toNat / 32 % 32 % 30 + sy) :
    tileSource sx sy s =
      ⟨BitVec.ofNat 16 (0x2000 + (s.ppu.ctrl.toNat % 4 ^^^ (row / 30 * 2 + col / 32)) * 0x400), row % 30,
        col % 32⟩ := by
  have hright : (if 32 ≤ col then 1 else 0) = col / 32 := by split_ifs <;> omega
  have hdown : (if 30 ≤ row then 1 else 0) = row / 30 := by split_ifs <;> omega
  have hrow' : (if 30 ≤ row then row - 30 else row) = row % 30 := by split_ifs <;> omega
  have hcol' : (if 32 ≤ col then col - 32 else col) = col % 32 := by split_ifs <;> omega
  simp only [tileSource, ← hcol, ← hrow, hright, hdown, hrow', hcol']

theorem backgroundBase_eq (s : State) :
    backgroundBase s = BitVec.ofNat 16 (s.ppu.ctrl.toNat / 16 % 2 * 0x1000) := by
  have hbase : ∀ c : Byte, (if c.getLsbD 4 then 0x1000#16 else 0x0000#16) =
      BitVec.ofNat 16 (c.toNat / 16 % 2 * 0x1000) := by decide
  exact hbase s.ppu.ctrl

theorem tileIndex_eq (n row col : Nat) (s : State) :
    tileIndex ⟨BitVec.ofNat 16 n, row, col⟩ s = ppuRead (BitVec.ofNat 16 (n + row * 32 + col)) s := by
  rw [tileIndex, ← BitVec.ofNat_add, Nat.add_assoc]

theorem tileAttribute_eq (n row col : Nat) (s : State) :
    tileAttribute ⟨BitVec.ofNat 16 n, row, col⟩ s = ppuRead (BitVec.ofNat 16 (n + 960 + row / 4 * 8 + col / 4)) s := by
  rw [tileAttribute, ← BitVec.ofNat_add, Nat.add_assoc n, Nat.add_assoc n]

/-- The tile of a pixel depends on the coarse scroll alone, bits 9:0 of `t` (D24). -/
theorem tileSource_of_coarse {s s' : State} (hctrl : s'.ppu.ctrl = s.ppu.ctrl)
    (ht : s'.ppu.t.toNat % 1024 = s.ppu.t.toNat % 1024) (sx sy : Nat) : tileSource sx sy s' = tileSource sx sy s := by
  have hx : s'.ppu.t.toNat % 32 = s.ppu.t.toNat % 32 := by omega
  have hy : s'.ppu.t.toNat / 32 % 32 = s.ppu.t.toNat / 32 % 32 := by omega
  simp only [tileSource, hctrl, hx, hy]

theorem t_with_fineY (t : BitVec 15) (y : BitVec 3) :
    ((t &&& 0x0FFF#15) ||| (y.setWidth 15 <<< 12)).toNat % 1024 = t.toNat % 1024 := by
  refine (congrArg (· % 1024) (toNat_eq_of_bits (y := y ++ t.extractLsb' 0 12) rfl fun i hi => ?bits)).trans ?number
  case bits =>
    rw [BitVec.getLsbD_append]
    interval_cases i <;> simp
  case number =>
    simp only [toNat_append_eq, extractLsb'_toNat_eq]
    omega

/-- Settles O56: a pixel is that of its wrapped tile, and no tile depends on the mask or the fine scroll. -/
theorem backgroundImage : Obligations.BackgroundImage := by
  refine ⟨fun s => length_of_rows 256 240 fun px py => backgroundPixel px py s, fun s px py hx hy => ?_,
    fun s mask x fineY => ?_, fun s => rfl⟩
  · refine ⟨_, _, _, _, _, rfl, rfl, rfl, rfl, rfl, ?_⟩
    rw [renderBackground, pixel_of_rows hx hy fun px py => backgroundPixel px py s]
    simp only [backgroundPixel, tileSource_eq (sx := px / 8) (sy := py / 8) (by omega) (by omega) s rfl rfl,
      quadrantPalette_eq, tileIndex_eq, tileAttribute_eq, backgroundBase_eq]
  · have hsource := tileSource_of_coarse (s := s)
      (s' := { s with ppu := { s.ppu with
        mask := mask, x := x, t := (s.ppu.t &&& 0x0FFF#15) ||| (fineY.setWidth 15 <<< 12) } })
      rfl (t_with_fineY s.ppu.t fineY)
    simp only [renderBackground, backgroundPixel, hsource]
    rfl

end Sys2Proof.Machine
end

section
/-! PROOFS. The CPU clock against the master counter (O44): what a tick adds to each count. -/

namespace Sys2Proof.Machine

/-! ### The counts of a tick (R130, R300, R301) -/

theorem interruptCheck_counts (u : State) :
    (interruptCheck u).master = u.master ∧ (interruptCheck u).cycles = u.cycles := by
  unfold interruptCheck
  split_ifs
  · exact ⟨rfl, rfl⟩
  · exact (interruptEntry_counts nmiVector 8 { u with nmiPending := false }).2
  · exact (interruptEntry_counts irqVector 7 u).2
  · exact ⟨rfl, rfl⟩

/-- The end of a tick counts the tick and no CPU clock, whether or not an interrupt is taken. -/
theorem endTick_counts (u : State) : (endTick u).master = u.master + 1#64 ∧ (endTick u).cycles = u.cycles := by
  cases hh : u.halted
  · obtain ⟨hmaster, hcycles⟩ := interruptCheck_counts u
    rw [endTick_of_running hh]
    exact ⟨congrArg (· + 1#64) hmaster, hcycles⟩
  · rw [endTick_owing (.inl hh)]
    exact ⟨rfl, rfl⟩

/-- A tick that leaves the system running counts itself, and one CPU clock if it is on a multiple of 3 (D1). -/
theorem step_counts {s t : State} (hs : s.halted = false) (hstep : step s = .next t) (ht : t.halted = false) :
    t.master = s.master + 1#64 ∧ t.cycles = s.cycles + (if s.master.toNat % 3 = 0 then 1#64 else 0#64) := by
  obtain ⟨u, hu, hkind⟩ := step_cases hs
  obtain rfl := Host.Outcome.next.inj (hstep.symm.trans hu)
  obtain ⟨hm, rfl⟩ | ⟨hm, -, rfl⟩ | ⟨hm, hr, v, he, -⟩ := hkind
  · rw [if_neg hm, BitVec.add_zero]
    simpa using endTick_counts (ppuTick s)
  · rw [if_pos hm]
    simpa [countClock] using endTick_counts (countClock (ppuTick s))
  · obtain ⟨-, -, hv⟩ := step_of_executed hs hm hr he
    have hend := Host.Outcome.next.inj (hstep.symm.trans hv)
    rw [if_pos hm]
    split at hend
    next hhalt => exact absurd (hhalt.symm.trans ((congrArg State.halted hend).symm.trans ht)) (by decide)
    next => exact ⟨congrArg State.master hend, congrArg State.cycles hend⟩

/-! ### The ceiling law (R358) -/

/-- Settles O44: the ceiling of a third grows by one from exactly the multiples of 3, the ticks that count a clock. -/
theorem cyclesAreACeilingOfMaster : Obligations.CyclesAreACeilingOfMaster := by
  refine ⟨by rw [systemReset_eq]; rfl, fun s t hstep hwrap hceil ht => ?_⟩
  have hs : s.halted = false := by
    by_contra hh
    have hhalt := Bool.eq_true_of_not_eq_false hh
    obtain rfl := Host.Outcome.next.inj (hstep.symm.trans (step_of_halted hhalt))
    exact hh ht
  obtain ⟨hmaster, hcycles⟩ := step_counts hs hstep ht
  have hclock : (if s.master.toNat % 3 = 0 then 1#64 else 0#64).toNat = if s.master.toNat % 3 = 0 then 1 else 0 := by
    split_ifs <;> rfl
  have hfits : s.cycles.toNat + (if s.master.toNat % 3 = 0 then 1#64 else 0#64).toNat < 2 ^ 64 := by
    rw [hclock, hceil hs]
    split_ifs <;> omega
  rw [hcycles, BitVec.toNat_add_of_lt hfits, hclock, hceil hs, hmaster, BitVec.toNat_add_of_lt hwrap]
  change _ = (s.master.toNat + 1 + 2) / 3
  split_ifs <;> omega

end Sys2Proof.Machine
end
